-- ==== Sys2Proof/Word.lean ====
section
/-!
DEFINITION. The word widths the LP-340's records and frames are made of (R189), as plain bit vectors.
-/

namespace Sys2Proof

/-- One byte of a till link record or of a lane frame (R189). -/
abbrev Byte := BitVec 8

/-- A 2-byte number: revision, day number, table tag, staff number, rate, holdings count (R189). -/
abbrev Half := BitVec 16

/-- A 3-byte number: a quantity, or a count of points (R189). -/
abbrev Triple := BitVec 24

/-- A 4-byte number: money, an item code (R189). -/
abbrev Quad := BitVec 32

/-- A member number on the wire: 5 bytes (R189). -/
abbrev MemberWord := BitVec 40

/-- A coupon serial on the wire: 6 bytes, 0 meaning the coupon is plain (R189). -/
abbrev SerialWord := BitVec 48

end Sys2Proof
end

