-- ==== Sys2Proof/Config.lean ====
section
/-!
DEFINITION. The capacities and spans the manual fixes for every LP-340, and the one free value it leaves open.
-/

namespace Sys2Proof.Config

/-- Lines per basket (R19). -/
def maxLines : Nat := 200
/-- Coupons per basket (R102). -/
def maxCoupons : Nat := 8
/-- Adjustments per basket (R58). -/
def maxAdjustments : Nat := 64
/-- Shares a line may hold (R59). -/
def maxShares : Nat := 8
/-- Records of the staff list (R34). -/
def maxStaff : Nat := 64
/-- Frames of the elevation stack (R84). -/
def maxElevation : Nat := 3
/-- Records of the outgoing queue (R135). -/
def maxQueue : Nat := 16
/-- Pairs of the redeemed serial set (R164). -/
def maxSerials : Nat := 1024
/-- Entries of the member activity table (R165). -/
def maxMembers : Nat := 128
/-- Outstanding requests, and so responses, at one time (R180). -/
def maxOutstanding : Nat := 8
/-- Notices waiting at one time (R180). -/
def maxNotices : Nat := 4
/-- Attempts at which a record or announcement is UNSETTLED (R140). -/
def maxAttempts : Nat := 4
/-- Frames of one tenure (R127). -/
def maxTenure : Nat := 4
/-- Pulses of the recovery of a hung LD (R130). -/
def maxPulses : Nat := 9

/-- The largest money amount a request may set, and the largest catalogue extended amount and gross (R20, R66). -/
def maxAmount : Nat := 99999999
/-- The largest unit price (R19, R66). -/
def maxUnitPrice : Nat := 9999999
/-- The largest balance, redemption request and points earned (R80, R109). -/
def maxPoints : Nat := 9999999
/-- The largest redeemed-today figure the member activity table holds (R165). -/
def maxRedeemedToday : Nat := 999999
/-- Where the 16-bit saturating counters and counts stop (R132, R155). -/
def maxCount : Nat := 65535

/-- The claim age limit, in ms (R141). -/
def claimAgeMs : Nat := 3000
/-- The join window, in ms (R174). -/
def joinWindowMs : Nat := 3000
/-- The presence interval, in ms (R150). -/
def presenceMs : Nat := 10000
/-- The time after which an unheard roster entry is SILENT, in ms (R157). -/
def silentMs : Nat := 30000
/-- Where a roster entry's time since last heard is held: 65,535 s (R157, R179). -/
def heardCapMs : Nat := 65535000
/-- The stretch limit, in ms (R125). -/
def stretchMs : Nat := 2
/-- The FAULTED recheck interval, in ms (R131). -/
def recheckMs : Nat := 1000
/-- The elevation timeout that a configured 0 stands for, in seconds (R171). -/
def defaultElevationSeconds : Nat := 120

/-- FREE VALUE (log entry 4). When several timed events are due at one millisecond, the manual does not say which
is taken first (R101 says only that the outcome depends on it): the n-th such choice is this number, which nothing
constrains, reduced to the number of events that are due. -/
opaque dueChoice : Nat → Nat

end Sys2Proof.Config
end

