-- ==== Sys2Proof/Syntax.lean ====
section
/-!
DEFINITION. The commands of the LP-340: one constructor of `Instr` for every row of spec/opcode_table.json, with the
operands the row's rule gives it. A request of the till carries its record header and its fields, each at the
width R189 gives the wire; an event of the lane bus or of the part's timers carries what the part sees of it.
Enumerated fields of a request stay raw bytes here, so that an undefined value can be written down and refused.
-/

namespace Sys2Proof

/-- What the part reads of a request record before its fields: the record's own length field and its tag (R190).
The request type is the command itself. -/
structure Hdr where
  length : Half
  tag    : Byte
deriving DecidableEq, Repr

/-- The configuration record as CONFIGURE carries it (R171). -/
structure ConfigFields where
  station       : Byte
  laneClass     : Byte
  bitRate       : Byte
  restartPolicy : Byte
  allotPolicy   : Byte
  serialPolicy  : Byte
  pointsPolicy  : Byte
  timeout       : Half
deriving DecidableEq, Repr

/-- The table header as LOAD_BEGIN carries it (R27, R36). -/
structure HeaderFields where
  tableTag   : Half
  cap        : Triple
  blockSize  : Triple
  blockValue : Quad
  rates      : List Byte
  quantities : List Half
  band1      : Half
  band2      : Half
  g1         : Byte
  g2         : Byte
  g3         : Byte
  gIncrease  : Byte
  gZero      : Byte
  gBasket    : Byte
  gPoints    : Byte
  threshold  : Quad
deriving DecidableEq, Repr

/-- A guard term as LOAD_PROMO carries it: measure, relation, constant (R31). -/
structure TermFields where
  measure  : Byte
  relation : Byte
  constant : Quad
deriving DecidableEq, Repr

/-- The common fields of a promotion entry, as LOAD_PROMO carries them (R29). -/
structure PromoCommon where
  group : Byte
  mask  : Byte
  terms : List TermFields
  limit : Byte
  skip  : Bool
deriving DecidableEq, Repr

/-- The kind parameters of a promotion entry, as LOAD_PROMO carries them (R30). -/
inductive PromoParams where
  | quantityBreak (measure : Byte) (threshold : Triple) (tierPrice : Quad)
  | multibuy (k : Byte) (setPrice : Quad)
  | allotmentPrice (allotment : Byte) (special : Quad)
  | percentOff (rate : Half) (minimum : Quad)
  | amountOff (threshold : Quad) (amount : Quad)
  | coupon (cls : Byte) (valueKind : Byte) (value : Quad) (threshold : Quad)
  | pointsMultiplier (factor : Byte)
deriving DecidableEq, Repr

/-- What LOAD_PROMO says of the entry it names: a promotion, kind EMPTY, or a kind byte the manual does not define. -/
inductive PromoFields where
  | entry (common : PromoCommon) (params : PromoParams)
  | empty
  | undefinedKind (code : Byte)
deriving DecidableEq, Repr

/-- Which line hung at a hang (R129). -/
inductive HungLines where
  | lc
  | ld
  | both
deriving DecidableEq, Repr

/-- What reaches its age limit at a CLAIM_AGE_EXPIRY: the record at a place of the outgoing queue, counted from 0 at
the head, or the announcement in hand (R141). -/
inductive AgeTarget where
  | record (place : Nat)
  | announcement
deriving DecidableEq, Repr

/-- The commands. A request names its record header `h` first. -/
inductive Instr where
  -- power and the till link
  | powerOn (straps : BitVec 5)
  | resetAsserted
  | poll
  | readResponse (clocked : Nat)
  | readNotice (clocked : Nat) (beganBeforeLoss : Bool)
  | writeDiscarded (written : List Byte)
  -- station requests
  | configure (h : Hdr) (f : ConfigFields)
  | restart (h : Hdr) (keep : Bool) (straps : BitVec 5)
  | status (h : Hdr) (clearCounters : Bool)
  | loadBegin (h : Hdr) (f : HeaderFields)
  | loadPromo (h : Hdr) (number : Byte) (f : PromoFields)
  | loadStaff (h : Hdr) (staff : Half) (level : Byte) (limit : Quad)
  | loadEnd (h : Hdr)
  | dayOpen (h : Hdr) (day : Half)
  | dayClose (h : Hdr)
  | setWindow (h : Hdr) (first last : Byte)
  | setTimeBand (h : Hdr) (band : Byte)
  -- staff requests and the elevation timer
  | signOn (h : Hdr) (staff : Half)
  | signOff (h : Hdr)
  | authorise (h : Hdr) (staff : Half)
  | dropAuthority (h : Hdr)
  | elevationExpiry
  -- basket requests
  | openBasket (h : Hdr)
  | park (h : Hdr)
  | recall (h : Hdr) (slot : Byte)
  | addLine (h : Hdr) (item : Quad) (measure : Byte) (qty : Triple) (price : Quad) (eligible : Bool) (groups : List Byte)
  | changeQty (h : Hdr) (line : Byte) (qty : Triple)
  | voidLine (h : Hdr) (line : Byte)
  | presentCoupon (h : Hdr) (cls : Byte) (serial : SerialWord)
  | withdrawCoupon (h : Hdr) (cls : Byte) (serial : SerialWord)
  | setMember (h : Hdr) (member : MemberWord) (tier : Byte) (balance : Triple)
  | clearMember (h : Hdr)
  | redeemPoints (h : Hdr) (points : Triple)
  | override (h : Hdr) (kind form line : Byte) (value : Quad)
  | cancelOverride (h : Hdr)
  | total (h : Hdr)
  | finalise (h : Hdr)
  | finaliseF2
  | finaliseF3
  | finaliseF4
  | reopen (h : Hdr)
  | close (h : Hdr)
  | voidBasket (h : Hdr) (slot : Byte)
  | readLine (h : Hdr) (line : Byte)
  | readAdjustments (h : Hdr)
  -- peer requests
  | readRoster (h : Hdr)
  | readAllotment (h : Hdr) (allotment : Byte)
  | purgeStation (h : Hdr) (target : Byte)
  -- steps of a scan
  | stageA
  | entryVisit
  | stageE
  | stageFPoints
  | stageG
  -- events of the lane bus
  | busIdle
  | frameBegin
  | arbitrationLoss
  | collisionAbort
  | frameSent (declineHigh conflictHigh : Bool)
  | frameReceived (bytes : List Byte) (late : Bool)
  | stretchLimitExpiry
  | verdictReady
  | frameSlotsHeard (declineHigh conflictHigh : Bool)
  | truncatedFrame
  | hangDetected (lines : HungLines)
  | recoveryPulse (ldHigh : Bool)
  | faultedRecheck (linesHigh : Bool)
  -- timed events
  | claimAgeExpiry (target : AgeTarget)
  | presenceDue
  | rosterSilent (station : Byte)
  | joinWindowExpiry
  -- starts and a recovery that fails
  | startSeen (isStart : Bool)
  | recoveryLcHeldLow
deriving DecidableEq, Repr

end Sys2Proof
end

