-- ==== Sys2Proof/Machine/State.lean ====
section
/-!
DEFINITION. The state of one LP-340 as plain data, block by block as the manual names its blocks (STC, PTB, BST, EVE, ATC, CLE, PST,
LBP, TLP), the outcomes of a step, and the state after reset. Sparse tables are lists in one canonical form:
keys strictly rising, and in a table of counts no entry of count 0.
-/

namespace Sys2Proof.Machine

/-! ## Sparse tables -/

/-- A sparse table: entries by number, numbers strictly rising. -/
abbrev Table (ν : Type) := List (Nat × ν)

/-- A sparse table of counts; a number with no entry counts 0, and no entry counts 0. -/
abbrev Counts := Table Nat

/-! ## Station control (STC) -/

/-- The station day state (R169, R170). -/
inductive DayState where
  | unconfigured | configured | ready | joining | trading
deriving DecidableEq, Repr

/-- The lane class (R171). -/
inductive LaneClass where
  | till | tradeCounter | selfCheckout | garden
deriving DecidableEq, Repr

/-- The configured bit rate (R116, R171): 62.5, 125 or 250 kbit/s. -/
inductive BitRate where
  | kbit62 | kbit125 | kbit250
deriving DecidableEq, Repr

/-- The restart policy of the evaluation engine (R45). -/
inductive RestartPolicy where
  | restart | follow
deriving DecidableEq, Repr

/-- A degrade policy (R142). -/
inductive Degrade where
  | allow | deny
deriving DecidableEq, Repr

/-- The configuration record (R171). The station field is kept as carried, 0 meaning the straps; the timeout is in
seconds, a carried 0 already stored as 120. -/
structure Configuration where
  station       : Nat
  laneClass     : LaneClass
  bitRate       : BitRate
  restartPolicy : RestartPolicy
  allotPolicy   : Degrade
  serialPolicy  : Degrade
  pointsPolicy  : Degrade
  timeout       : Nat
deriving DecidableEq, Repr

/-- The join window: idle, waiting for the end of the SYNC_ASK, or running with its ms to expiry (R169, R174). -/
inductive JoinWindow where
  | idle
  | waiting
  | running (ms : Nat)
deriving DecidableEq, Repr

/-- Station control (R169), with the active window and the time band of R41. -/
structure Stc where
  day         : DayState
  config      : Option Configuration
  strap       : BitVec 5
  station     : Nat
  fromStraps  : Bool
  dayNumber   : Half
  join        : JoinWindow
  timeBase    : BitVec 32
  windowFirst : Nat
  windowLast  : Nat
  band        : Nat
deriving DecidableEq, Repr

/-! ## The promotion table (PTB) -/

/-- The load state (R26). -/
inductive LoadState where
  | empty | loading | loaded
deriving DecidableEq, Repr

/-- The table header (R27). The lists hold four tier rates and 32 allotment quantities. -/
structure Header where
  tableTag   : Half
  cap        : Nat
  blockSize  : Nat
  blockValue : Nat
  rates      : List Nat
  quantities : List Nat
  band1      : Nat
  band2      : Nat
  g1         : Nat
  g2         : Nat
  g3         : Nat
  gIncrease  : Nat
  gZero      : Nat
  gBasket    : Nat
  gPoints    : Nat
  threshold  : Nat
deriving DecidableEq, Repr

/-- The measure kind of a line and of a QUANTITY_BREAK entry (R19, R30). -/
inductive Measure where
  | each | millimetre | gram
deriving DecidableEq, Repr

/-- What a guard term measures (R31). -/
inductive GuardMeasure where
  | basketGross | liveLines | groupSpend | groupUnits | memberTier | laneClass
deriving DecidableEq, Repr

/-- A guard term's relation (R32). -/
inductive Relation where
  | equal | unequal | above | atLeast | below | atMost
deriving DecidableEq, Repr

/-- A guard term (R31). -/
structure GuardTerm where
  measure  : GuardMeasure
  relation : Relation
  constant : Nat
deriving DecidableEq, Repr

/-- The value of a COUPON entry (R30). -/
inductive CouponValue where
  | amount (n : Nat)
  | percent (bp : Nat)
deriving DecidableEq, Repr

/-- The kind of a promotion entry, with its parameters (R30). -/
inductive PromoKind where
  | quantityBreak (measure : Measure) (threshold tierPrice : Nat)
  | multibuy (k setPrice : Nat)
  | allotmentPrice (allotment special : Nat)
  | percentOff (rate minimum : Nat)
  | amountOff (threshold amount : Nat)
  | coupon (cls : Nat) (value : CouponValue) (threshold : Nat)
  | pointsMultiplier (factor : Nat)
deriving DecidableEq, Repr

/-- One promotion entry (R29); its number is its key in the table. -/
structure PromoEntry where
  kind  : PromoKind
  group : Nat
  mask  : BitVec 8
  terms : List GuardTerm
  limit : Nat
  skip  : Bool
deriving DecidableEq, Repr

/-- The definition of a defined allotment (R28). -/
structure AllotDef where
  quantity : Nat
  entry    : Option Nat
  limit    : Nat
deriving DecidableEq, Repr

/-- A staff record (R34). -/
structure StaffRecord where
  staff : Nat
  level : Nat
  limit : Nat
deriving DecidableEq, Repr

/-- The promotion table block (R26). An entry that is empty has no place in `entries`, and an undefined
allotment none in `allots`. -/
structure Ptb where
  load    : LoadState
  header  : Option Header
  entries : Table PromoEntry
  allots  : Table AllotDef
  staff   : List StaffRecord
deriving DecidableEq, Repr

/-! ## The basket store (BST) -/

/-- An approval stamp (R88). Depth 0 means the operator approved with the elevation stack empty. -/
structure Stamp where
  staff : Nat
  level : Nat
  depth : Nat
  bound : Bool
deriving DecidableEq, Repr

/-- An applied override record around its value: the reduction amount and the approval stamp (R88, R90). -/
structure Applied (α : Type) where
  value     : α
  reduction : Nat
  stamp     : Stamp
deriving DecidableEq, Repr

/-- The value of a line override (R88). -/
inductive LineOverride where
  | price (p : Nat)
  | discountAmount (d : Nat)
  | discountRate (bp : Nat)
deriving DecidableEq, Repr

/-- A line record (R19). `live` is false of a VOIDED line; the fields from `tier` on are the computed ones. -/
structure Line where
  number        : Nat
  item          : Nat
  measure       : Measure
  qty           : Nat
  price         : Nat
  groups        : List Nat
  eligible      : Bool
  live          : Bool
  override      : Option (Applied LineOverride)
  tier          : Option Nat
  consumedUnits : Nat
  consumedFlag  : Bool
  shares        : List (Nat × Nat)
  extended      : Nat
  net           : Nat
  points        : Nat
deriving DecidableEq, Repr

/-- The state of a coupon (R103). -/
inductive CouponState where
  | presented | applying | notApplicable | redeeming | redeemed | refused
deriving DecidableEq, Repr

/-- A coupon record (R102). A serial of 0 is a plain coupon. `id` is the model's own: it tells one record
from every other of the basket's life, as R102 does ("each coupon record is a record of its own"). -/
structure Coupon where
  id      : Nat
  cls     : Nat
  serial  : Nat
  state   : CouponState
  applied : Nat
deriving DecidableEq, Repr

/-- The member context (R109). -/
structure Member where
  number  : Nat
  tier    : Nat
  balance : Nat
deriving DecidableEq, Repr

/-- The points outcome (R1, R109). -/
inductive PointsOutcome where
  | none
  | granted (points : Nat)
  | refused
deriving DecidableEq, Repr

/-- The kind of an adjustment (R58). -/
inductive AdjKind where
  | quantityBreak | multibuy | allotmentPrice | percentOff | amountOff | coupon | pointsMultiplier | basketDiscount
deriving DecidableEq, Repr

/-- An adjustment record (R58). `entry` is absent for the BASKET_DISCOUNT marker. -/
structure Adjustment where
  index  : Nat
  entry  : Option Nat
  kind   : AdjKind
  amount : Nat
  units  : Option Nat
  coupon : Option (Nat × Nat)
deriving DecidableEq, Repr

/-- The five flags of a summary (R63). -/
structure SummaryFlags where
  provisional   : Bool
  truncated     : Bool
  withdrawn     : Bool
  redeemClamped : Bool
  localDecision : Bool
deriving DecidableEq, Repr

/-- The summary record (R82, R190). -/
structure Summary where
  revision          : Half
  gross             : Nat
  overrideReduction : Int
  promotionDiscount : Nat
  net               : Nat
  redemptionPoints  : Nat
  redemptionValue   : Nat
  payable           : Nat
  pointsEarned      : Nat
  liveLines         : Nat
  applyingCoupons   : Nat
  flags             : SummaryFlags
deriving DecidableEq, Repr

/-- Where finalisation stands (R8 to R12). In `f2` the coupons before `cursor` have been taken, and `changed`
says whether F2 has changed a coupon's state so far; `f2Due` is F2 decided on by F3 and not begun. -/
inductive FinalPhase where
  | f1
  | f2Due
  | f2 (cursor : Nat) (changed : Bool)
  | f3
  | f4
deriving DecidableEq, Repr

/-- The state of a slot that is not FREE (R2). FINALISING carries its phase and the tag of the deferred FINALISE (R8). -/
inductive BasketState where
  | trading
  | held
  | parked
  | finalising (phase : FinalPhase) (tag : Byte)
  | settled
deriving DecidableEq, Repr

/-- A basket record (R1), with the local-decision mark of R63. `nextCoupon` is the model's own source of
coupon identities, and `pricedLines` its own count of the line records that the last completed scan wrote, which are the
first ones of the list (R19, R62). -/
structure Basket where
  state       : BasketState
  revision    : Half
  lines       : List Line
  coupons     : List Coupon
  member      : Option Member
  request     : Nat
  discount    : Option (Applied Nat)
  award       : Option (Applied Nat)
  held        : Counts
  points      : PointsOutcome
  adjustments : List Adjustment
  summary     : Summary
  withdrawn   : Bool
  localMark   : Bool
  nextCoupon  : Nat
  pricedLines : Nat
deriving DecidableEq, Repr

/-- The four basket slots; a FREE slot holds no basket record (R1). -/
structure Slots where
  s0 : Option Basket
  s1 : Option Basket
  s2 : Option Basket
  s3 : Option Basket
deriving DecidableEq, Repr

/-! ## The evaluation engine (EVE) -/

/-- A stage that visits the window (R51). -/
inductive VisitStage where
  | b | c | d | f
deriving DecidableEq, Repr

/-- The scan position (R64). `f` is stage F shown alone, in its points step. -/
inductive Position where
  | none
  | a
  | visit (stage : VisitStage) (entry : Nat)
  | e
  | f
  | g
deriving DecidableEq, Repr

/-- A line of a scan's working record: the reading of the line, then what the scan has made of it (R47, R51). -/
structure WLine where
  number        : Nat
  measure       : Measure
  qty           : Nat
  price         : Nat
  groups        : List Nat
  eligible      : Bool
  live          : Bool
  override      : Option LineOverride
  base          : Nat
  tier          : Option Nat
  consumedUnits : Nat
  consumedFlag  : Bool
  shares        : List (Nat × Nat)
  extended      : Nat
  stageA        : Nat
  net           : Nat
  factor        : Nat
  points        : Nat
deriving DecidableEq, Repr

/-- A coupon of a scan's reading, with the amount of its adjustment in this scan (R47, R60). -/
structure WCoupon where
  id     : Nat
  cls    : Nat
  serial : Nat
  state  : CouponState
  amount : Nat
deriving DecidableEq, Repr

/-- A scan in progress: subject, latched inputs and working record (R45, R47). -/
structure Scan where
  slot         : Fin 4
  first        : Nat
  last         : Nat
  band         : Nat
  revision     : Half
  member       : Option Member
  request      : Nat
  outcome      : PointsOutcome
  lines        : List WLine
  coupons      : List WCoupon
  discount     : Option Nat
  award        : Option Nat
  adjustments  : List Adjustment
  wants        : Counts
  provisional  : Bool
  truncated    : Bool
  stageE       : Nat
  pointsEarned : Nat
deriving DecidableEq, Repr

/-- The evaluation engine (R45). The engine is IDLE when `scan` is absent. -/
structure Eve where
  scan         : Option Scan
  wanted       : Bool
  position     : Position
  waitingTotal : Option Byte
deriving DecidableEq, Repr

/-! ## The authority controller (ATC) -/

/-- An elevation frame (R84). -/
structure ElevFrame where
  staff    : Nat
  level    : Nat
  limit    : Nat
  savedLal : Nat
deriving DecidableEq, Repr

/-- An override request: its kind, target and value (R88). -/
inductive OverrideRequest where
  | line (number : Nat) (value : LineOverride)
  | basketDiscount (amount : Nat)
  | pointsAward (points : Nat)
deriving DecidableEq, Repr

/-- The held override (R93). -/
structure HeldOverride where
  request   : OverrideRequest
  reduction : Nat
  gate      : Nat
  slot      : Fin 4
deriving DecidableEq, Repr

/-- The authority controller (R84). The stack is kept top first. -/
structure Atc where
  operator : Option StaffRecord
  lal      : Option Nat
  stack    : List ElevFrame
  held     : Option HeldOverride
  timer    : Option Nat
deriving DecidableEq, Repr

/-! ## The claims engine (CLE) -/

/-- What an outgoing record is and carries (R135). A claim's slot is absent once VOID_BASKET has detached it. -/
inductive RecordKind where
  | allotClaim (slot : Option (Fin 4)) (allotment units : Nat)
  | serialClaim (slot : Option (Fin 4)) (cls serial : Nat)
  | pointsClaim (slot : Option (Fin 4)) (member points : Nat)
  | allotRelease (allotment units : Nat)
  | serialRelease (cls serial : Nat)
  | pointsRelease (member points : Nat)
  | purge (target : Nat) (tag : Byte)
  | syncAsk
deriving DecidableEq, Repr

/-- A record of the outgoing queue (R135). -/
structure Record where
  kind     : RecordKind
  attempts : Nat
  enqueued : BitVec 32
deriving DecidableEq, Repr

/-- What an announcement says (R134, R136). -/
inductive AnnouncementKind where
  | holdings (allotment subject : Nat)
  | presence
deriving DecidableEq, Repr

/-- The announcement in hand (R134). -/
structure Announcement where
  kind       : AnnouncementKind
  attempts   : Nat
  firstOffer : BitVec 32
deriving DecidableEq, Repr

/-- What LBP holds as its frame in hand for CLE: nothing, the head record, or the announcement in hand (R134, R136). -/
inductive InFlight where
  | none | head | announcement
deriving DecidableEq, Repr

/-- The claims engine (R134). The presence timer is absent while stopped, else the ms since its last restart. -/
structure Cle where
  queue        : List Record
  inFlight     : InFlight
  announcement : Option Announcement
  sold         : Counts
  owed         : BitVec 32
  echoes       : List (Nat × Nat)
  presence     : Option Nat
deriving DecidableEq, Repr

/-! ## The peer state tables (PST) -/

/-- The state of a roster entry (R157). -/
inductive RosterState where
  | absent | present | silent | foreign
deriving DecidableEq, Repr

/-- A roster entry (R157). -/
structure RosterEntry where
  state         : RosterState
  dayNumber     : Option Half
  tableTag      : Option Half
  laneClass     : Option LaneClass
  openBaskets   : Option Nat
  sinceHeard    : Option Nat
  framesHeard   : Nat
  foreignNoticed : Bool
deriving DecidableEq, Repr

/-- The peer state tables (R155). `holdings` holds the peers' columns; this station's own column is computed from
CLE's account (R161). `serials` is in order of insertion, `members` in order of last update, oldest first. -/
structure Pst where
  roster          : Table RosterEntry
  holdings        : Counts
  serials         : List (Nat × Nat)
  members         : List (Nat × Nat)
  conflict        : Bool
  ignored         : Nat
  serialEvictions : Nat
  memberEvictions : Nat
deriving DecidableEq, Repr

/-! ## The lane bus port (LBP) -/

/-- The bus state while the port is ON (R118). HUNG carries the pulses made (R130); FAULTED the ms since its entry or
last recheck (R131). -/
inductive BusState where
  | busy
  | idle
  | hung (pulses : Nat)
  | faulted (ms : Nat)
deriving DecidableEq, Repr

/-- The payload of a lane frame by kind (R191); a frame of an unknown kind has no payload this part reads. -/
inductive Payload where
  | allotRelease (allotment units : Nat)
  | serialRelease (cls serial : Nat)
  | pointsRelease (member points : Nat)
  | allotClaim (allotment units : Nat)
  | serialClaim (cls serial : Nat)
  | pointsClaim (member points : Nat)
  | holdings (allotment subject count : Nat)
  | purge (target : Nat)
  | syncAsk
  | presence (laneClass openBaskets : Nat)
deriving DecidableEq, Repr

/-- A lane frame this station has built (R117, R191). -/
structure LaneFrame where
  source    : Nat
  dayNumber : Half
  tableTag  : Half
  payload   : Payload
deriving DecidableEq, Repr

/-- A listener's verdict (R124). -/
inductive Verdict where
  | silence | decline | conflict
deriving DecidableEq, Repr

/-- The frame in hand (R118): none; sending; receiving its bits; received to its last byte with its verdict, `counted`
when the decline counter was already raised at the end of a stretch; or received and stretching LC since `ms`. -/
inductive FrameInHand where
  | none
  | sending (frame : LaneFrame)
  | receiving
  | judged (bytes : List Byte) (verdict : Verdict) (counted : Bool)
  | stretching (bytes : List Byte) (verdict : Verdict) (ms : Nat)
deriving DecidableEq, Repr

/-- The eight lane counters (R132). -/
structure LaneCounters where
  framesHeard       : Nat
  crcFailures       : Nat
  declinesDriven    : Nat
  conflictsDriven   : Nat
  arbitrationLosses : Nat
  collisions        : Nat
  hangEvents        : Nat
  faultedEntries    : Nat
deriving DecidableEq, Repr

/-- The lane bus port (R118). The port is ON when `bus` is present. `quiet` says that both lines have been high throughout the
last idle interval (R120); `closing` that the port stays ON only to complete the frame being sent at DAY_CLOSE (R133). -/
structure Lbp where
  bus      : Option BusState
  quiet    : Bool
  closing  : Bool
  frame    : FrameInHand
  tenure   : Nat
  counters : LaneCounters
  laneLost : Bool
deriving DecidableEq, Repr

/-! ## The till link port (TLP) -/

/-- A response status, in the order of the status table (R185, R189). -/
inductive Status where
  | ok | badRequest | notReady | noOperator | noBasket | basketState | held | limit | range | lineState | duplicate
  | authority | busy | table | peerRefused | laneDown
deriving DecidableEq, Repr

/-- The named details, in the alphabetical order that numbers them (R189). -/
inductive DetailName where
  | allotShared | allotUndefined | applied | classShared | couponRefused | elevated | groupZero | heldApplied
  | heldForAuthority | inBasket | level | notElevated | noCoupon | noGain | noLoad | noMember | redeemedSerial
  | signedOn | stackFull | staffDuplicate | stillHeld | tagInUse | unknownStaff
deriving DecidableEq, Repr

/-- A response's detail: none, a named one, or the position of the field a RANGE refusal names (R184, R189). -/
inductive Detail where
  | none
  | named (n : DetailName)
  | field (position : Nat)
deriving DecidableEq, Repr

/-- The body of an APPLIED response (R92). -/
structure AppliedReport where
  kind      : Nat
  line      : Option Nat
  reduction : Nat
  gate      : Nat
  stamp     : Stamp
  revision  : Half
deriving DecidableEq, Repr

/-- The body of STATUS, block by block (R188). -/
structure StatusReport where
  day             : DayState
  station         : Nat
  fromStraps      : Bool
  strap           : BitVec 5
  config          : Option Configuration
  dayNumber       : Half
  join            : JoinWindow
  timeBase        : BitVec 32
  load            : LoadState
  tableTag        : Half
  entryCount      : Nat
  staffCount      : Nat
  slotStates      : List (Option BasketState)
  activeSlot      : Option (Fin 4)
  scanning        : Bool
  scanSubject     : Option (Fin 4)
  position        : Position
  wanted          : Bool
  latchedRevision : Option Half
  waitingTotal    : Option Byte
  operator        : Option (Nat × Nat)
  lal             : Option Nat
  frames          : List (Nat × Nat)
  timer           : Option Nat
  heldOverride    : Option (Nat × Nat × Nat)
  queueLength     : Nat
  headKind        : Option RecordKind
  headAttempts    : Nat
  headAge         : Nat
  headInFlight    : Bool
  announcement    : Option AnnouncementKind
  owedCount       : Nat
  echoCount       : Nat
  presenceDue     : Bool
  portOn          : Bool
  bus             : Option BusState
  frame           : FrameInHand
  tenure          : Nat
  counters        : LaneCounters
  laneLost        : Bool
  conflict        : Bool
  ignored         : Nat
  serialEvictions : Nat
  memberEvictions : Nat
  outstanding     : Nat
  responses       : Nat
  notices         : Nat
  noticesLost     : Bool
deriving DecidableEq, Repr

/-- The body of READ_ADJUSTMENTS (R115). -/
structure AdjustmentsReport where
  adjustments     : List Adjustment
  coupons         : List Coupon
  member          : Option Member
  request         : Nat
  points          : PointsOutcome
  revision        : Half
  summaryRevision : Half
deriving DecidableEq, Repr

/-- The body of READ_ROSTER (R168). -/
structure RosterReport where
  station         : Nat
  dayNumber       : Half
  tableTag        : Half
  conflict        : Bool
  entries         : List (Nat × RosterEntry)
  presentCount    : Nat
  silentCount     : Nat
  foreignCount    : Nat
  serialCount     : Nat
  memberCount     : Nat
  ignored         : Nat
  serialEvictions : Nat
  memberEvictions : Nat
deriving DecidableEq, Repr

/-- The body of READ_ALLOTMENT (R154). The last list gives, for each slot that is not FREE, its number, its held units,
its pending units queued, and its pending units in flight. -/
structure AllotmentReport where
  quantity  : Nat
  entry     : Option Nat
  limit     : Nat
  sold      : Nat
  own       : Nat
  holdings  : List Nat
  total     : Nat
  remaining : Nat
  owed      : Bool
  echoes    : Nat
  slots     : List (Nat × Nat × Nat × Nat)
deriving DecidableEq, Repr

/-- A response's body, by what the owning rule lists (R184, R190). -/
inductive Body where
  | none
  | configured (station : Nat) (fromStraps : Bool)
  | restarted (day : DayState) (station : Nat)
  | status (report : StatusReport)
  | loadBegun (tableTag : Half)
  | promoLoaded (number entries : Nat)
  | staffLoaded (count : Nat)
  | loadEnded (tableTag : Half) (entries staff allotments : Nat)
  | failingEntry (number : Nat)
  | failingStaff (staff position : Nat)
  | dayNumber (day : Half)
  | window (first last : Nat)
  | timeBand (band : Nat)
  | signedOn (staff lal : Nat)
  | signedOff (popped withdrawn : Nat)
  | elevated (depth lal : Nat)
  | heldApplied (depth lal : Nat) (report : AppliedReport)
  | stillHeld (depth lal gate reduction : Nat)
  | dropped (depth lal withdrawn : Nat)
  | slot (number : Fin 4)
  | slotRevision (number : Fin 4) (revision : Half)
  | lineRevision (line : Nat) (revision : Half)
  | couponAdded (position count : Nat) (revision : Half)
  | couponsLeft (count : Nat) (revision : Half)
  | revision (revision : Half)
  | applied (report : AppliedReport)
  | heldForAuthority (gate reduction : Nat)
  | cancelled (kind : Nat) (line : Option Nat)
  | total (slot : Fin 4) (summary : Summary)
  | settled (summary : Summary)
  | line (line : Line) (revision : Half) (current : Bool)
  | adjustments (report : AdjustmentsReport)
  | roster (report : RosterReport)
  | allotment (report : AllotmentReport)
deriving DecidableEq, Repr

/-- A response record (R184). -/
structure Response where
  tag    : Byte
  status : Status
  detail : Detail
  body   : Body
deriving DecidableEq, Repr

/-- A notice record (R187). -/
inductive Notice where
  | laneState (faulted : Bool) (laneLost : Bool)
  | stationConflict (station : Nat) (kind : Byte)
  | peerForeign (station : Nat) (dayNumber tableTag : Half)
  | joinComplete (dayNumber : Half) (present holdings : Nat)
  | overrideWithdrawn (depth staff count : Nat) (slots : List (Fin 4))
  | elevationExpired (depth staff : Nat)
deriving DecidableEq, Repr

/-- The till link port (R180). The outstanding-request count is the length of `tags`. `tsdo` holds the bytes shifted out
in the last transfer that ended (R181). `lossUnseen` is the model's own: an overflow has set the notices-lost flag and no transfer has
ended since, so that a read may be under way that began before it (R187). -/
structure Tlp where
  responses   : List Response
  notices     : List Notice
  tags        : List Byte
  noticesLost : Bool
  lossUnseen  : Bool
  restarted   : Bool
  tsdo        : List Byte
deriving DecidableEq, Repr

/-! ## The whole part -/

/-- The state of one LP-340. `inReset` is true while RSTN is low or the supply below its level (R178). `dueChoices` is
the model's own: how many times the free value `Config.dueChoice` has been drawn (log entry 4). `pending` is the
queue of commands that wait, first in, first out. -/
structure State where
  stc        : Stc
  ptb        : Ptb
  bst        : Slots
  eve        : Eve
  atc        : Atc
  cle        : Cle
  pst        : Pst
  lbp        : Lbp
  tlp        : Tlp
  inReset    : Bool
  dueChoices : Nat
  pending    : List Instr
deriving DecidableEq, Repr

/-- No command stops the LP-340: the manual describes no condition that halts the part, so there is no fault to name. -/
inductive Fault where
deriving DecidableEq, Repr

/-- Why the model has no meaning for a command. -/
inductive Refusal where
  /-- A command whose meaning is not written yet; only `exec` raises it. Safe: the model stops where the part goes on. -/
  | notModelled (mnemonic : String)
deriving DecidableEq, Repr

/-! ## Values after power-on -/

/-- STC after power-on with the straps read as `straps` (R169, R172, R44). -/
def Stc.afterPowerOn (straps : BitVec 5) : Stc :=
  { day := .unconfigured, config := none, strap := straps, station := straps.toNat + 1, fromStraps := true,
    dayNumber := 0, join := .idle, timeBase := 0, windowFirst := 0, windowLast := 255, band := 0 }

/-- PTB with every table discarded (R44). -/
def Ptb.discarded : Ptb :=
  { load := .empty, header := none, entries := [], allots := [], staff := [] }

/-- Every slot FREE (R25). -/
def Slots.allFree : Slots := ⟨none, none, none, none⟩

/-- EVE after power-on and either RESTART (R45, R64). -/
def Eve.afterReset : Eve :=
  { scan := none, wanted := false, position := .none, waitingTotal := none }

/-- ATC after power-on and either RESTART (R84). -/
def Atc.afterReset : Atc :=
  { operator := none, lal := none, stack := [], held := none, timer := none }

/-- CLE after power-on and either RESTART, and after DAY_CLOSE (R134). -/
def Cle.cleared : Cle :=
  { queue := [], inFlight := .none, announcement := none, sold := [], owed := 0, echoes := [], presence := none }

/-- PST after power-on and either RESTART (R155). -/
def Pst.cleared : Pst :=
  { roster := [], holdings := [], serials := [], members := [], conflict := false, ignored := 0,
    serialEvictions := 0, memberEvictions := 0 }

/-- Every lane counter at 0 (R118). -/
def LaneCounters.zero : LaneCounters := ⟨0, 0, 0, 0, 0, 0, 0, 0⟩

/-- LBP after power-on and either RESTART (R118). -/
def Lbp.off : Lbp :=
  { bus := none, quiet := false, closing := false, frame := .none, tenure := 0, counters := .zero, laneLost := false }

/-- TLP after power-on (R180). -/
def Tlp.afterPowerOn : Tlp :=
  { responses := [], notices := [], tags := [], noticesLost := false, lossUnseen := false, restarted := true, tsdo := [] }

/-- The part right after power-on (R178), with the straps as read. -/
def State.afterPowerOn (straps : BitVec 5) (dueChoices : Nat) (pending : List Instr) : State :=
  { stc := .afterPowerOn straps, ptb := .discarded, bst := .allFree, eve := .afterReset, atc := .afterReset,
    cle := .cleared, pst := .cleared, lbp := .off, tlp := .afterPowerOn, inReset := false,
    dueChoices := dueChoices, pending := pending }

/-- The part right after reset: power-on with the strap pins left open, which their weak pull-downs hold at 0
(log entry 2), and no command waiting. -/
def State.reset : State := .afterPowerOn 0 0 []

end Sys2Proof.Machine
end

