-- ==== Sys2Proof/Machine/Ops.lean ====
section
/-!
DEFINITION. The shared operations over the state's tables, slots, queues and clocks, each once, by the rule that gives it.
-/

namespace Sys2Proof.Machine

/-- What a command or a step answers. -/
abbrev Result := Host.Outcome State Fault Refusal

/-! ## Sparse tables -/

/-- The entry at number `k`, if there is one. -/
def tableGet {ν : Type} (k : Nat) : Table ν → Option ν
  | [] => none
  | (k', v) :: t => if k' = k then some v else tableGet k t

/-- The table with `v` at number `k`, numbers kept rising. -/
def tablePut {ν : Type} (k : Nat) (v : ν) : Table ν → Table ν
  | [] => [(k, v)]
  | (k', v') :: t =>
    if k < k' then (k, v) :: (k', v') :: t
    else if k = k' then (k, v) :: t
    else (k', v') :: tablePut k v t

/-- The table with no entry at number `k`. -/
def tableErase {ν : Type} (k : Nat) : Table ν → Table ν
  | [] => []
  | (k', v) :: t => if k' = k then tableErase k t else (k', v) :: tableErase k t

/-- The count at number `k`: 0 where there is no entry. -/
def countGet (k : Nat) (c : Counts) : Nat := (tableGet k c).getD 0

/-- The counts with `n` at number `k`; a count of 0 has no entry. -/
def countSet (k n : Nat) (c : Counts) : Counts :=
  if n = 0 then tableErase k c else tablePut k n c

/-- A table's canonical form: numbers strictly rising. -/
def tableWf {ν : Type} (t : Table ν) : Bool :=
  (t.map Prod.fst).Pairwise (· < ·)

/-- A count table's canonical form: numbers strictly rising and no count of 0. -/
def countsWf (c : Counts) : Bool :=
  tableWf c && c.all (fun e => e.2 != 0)

/-- A 16-bit counter raised by one, stopping at 65,535 (R132, R155). -/
def saturate (n : Nat) : Nat := min n Config.maxCount

/-- The list with place `i` changed by `f`. -/
def modifyAt {α : Type} (i : Nat) (f : α → α) : List α → List α
  | [] => []
  | a :: t => match i with
    | 0 => f a :: t
    | n + 1 => a :: modifyAt n f t

/-! ## Slots -/

/-- The four slot numbers in rising order. -/
def slotNumbers : List (Fin 4) := [0, 1, 2, 3]

/-- What slot `i` holds (R1). -/
def Slots.get (b : Slots) (i : Fin 4) : Option Basket :=
  match i with
  | 0 => b.s0
  | 1 => b.s1
  | 2 => b.s2
  | 3 => b.s3

/-- The slots with slot `i` holding `v`. -/
def Slots.set (b : Slots) (i : Fin 4) (v : Option Basket) : Slots :=
  match i with
  | 0 => { b with s0 := v }
  | 1 => { b with s1 := v }
  | 2 => { b with s2 := v }
  | 3 => { b with s3 := v }

/-- A slot is active when its state is neither FREE nor PARKED (R2). -/
def slotActive (o : Option Basket) : Bool :=
  match o with
  | none => false
  | some b => b.state != .parked

/-- The active slot, if there is one (R2). -/
def Slots.active (b : Slots) : Option (Fin 4) :=
  slotNumbers.find? (fun i => slotActive (b.get i))

/-- The lowest-numbered FREE slot (R5). -/
def Slots.lowestFree (b : Slots) : Option (Fin 4) :=
  slotNumbers.find? (fun i => (b.get i).isNone)

/-- The evaluation engine scans a basket in TRADING, HELD or FINALISING (R2). -/
def BasketState.scanned (st : BasketState) : Bool :=
  match st with
  | .trading | .held => true
  | .finalising _ _ => true
  | .parked | .settled => false

/-- The state with slot `i` of the basket store holding `v`. -/
def State.setSlot (s : State) (i : Fin 4) (v : Option Basket) : State :=
  { s with bst := s.bst.set i v }

/-- The state with the basket of slot `i` changed by `f`; a FREE slot stays FREE. -/
def State.updateBasket (s : State) (i : Fin 4) (f : Basket → Basket) : State :=
  s.setSlot i ((s.bst.get i).map f)

/-! ## The table, as other blocks read it -/

/-- The station's table tag: the header's when the load state is LOADED, and 0 otherwise (R26). -/
def State.tableTag (s : State) : Half :=
  match s.ptb.load, s.ptb.header with
  | .loaded, some h => h.tableTag
  | _, _ => 0

/-- The quantity Q[a] of an allotment, 0 when it is undefined (R28). -/
def State.quantity (s : State) (a : Nat) : Nat :=
  match tableGet a s.ptb.allots with
  | some d => d.quantity
  | none => 0

/-- The daily member redemption cap (R27); 0 when no table is held. -/
def State.redemptionCap (s : State) : Nat :=
  match s.ptb.header with
  | some h => h.cap
  | none => 0

/-- Staff lookup: the first record of that number in a LOADED table (R34). -/
def State.findStaff (s : State) (n : Nat) : Option StaffRecord :=
  match s.ptb.load with
  | .loaded => s.ptb.staff.find? (fun r => r.staff == n)
  | _ => none

/-! ## Own holdings and the holdings table -/

/-- The cell of allotment `a` and station `t` in the 32 × 32 holdings table, stations being 1 to 32. -/
def holdingCell (a t : Nat) : Nat := 33 * a + t

/-- The 32 station numbers in rising order. -/
def stationNumbers : List Nat := (List.range 32).map (· + 1)

/-- The 32 allotment numbers in rising order. -/
def allotmentNumbers : List Nat := List.range 32

/-- The units of allotment `a` a slot holds; a FREE slot holds none. -/
def heldIn (o : Option Basket) (a : Nat) : Nat :=
  match o with
  | some b => countGet a b.held
  | none => 0

/-- The own holdings of allotment `a`: its sold count plus the held units of every non-FREE slot (R146). -/
def State.ownHoldings (s : State) (a : Nat) : Nat :=
  countGet a s.cle.sold + heldIn s.bst.s0 a + heldIn s.bst.s1 a + heldIn s.bst.s2 a + heldIn s.bst.s3 a

/-- The count of allotment `a` for station `t` in this station's holdings table; its own column shows its
own holdings at all times (R161). Counts stop at 65,535 (R155). -/
def State.column (s : State) (a t : Nat) : Nat :=
  if t = s.stc.station then saturate (s.ownHoldings a) else countGet (holdingCell a t) s.pst.holdings

/-- The sum of every station's holdings of allotment `a` in this station's table (R137, R158). -/
def State.allotTotal (s : State) (a : Nat) : Nat :=
  (stationNumbers.map (s.column a)).sum

/-- The holdings table with the count of a peer written; the own column is never written (R161). -/
def State.writeColumn (s : State) (a t n : Nat) : State :=
  if t = s.stc.station then s
  else { s with pst := { s.pst with holdings := countSet (holdingCell a t) (saturate n) s.pst.holdings } }

/-- The column of a purged station cleared, allotment by allotment (R160). -/
def State.purgeColumn (s : State) (t : Nat) : State :=
  allotmentNumbers.foldl (fun s a => s.writeColumn a t 0) s

/-- Owed flag of allotment `a` set (R147). -/
def setOwed (a : Nat) (owed : BitVec 32) : BitVec 32 := owed ||| BitVec.ofNat 32 (2 ^ a)

/-- Owed flag of allotment `a` cleared. -/
def clearOwed (a : Nat) (owed : BitVec 32) : BitVec 32 := owed &&& ~~~ (BitVec.ofNat 32 (2 ^ a))

/-- The state with the owed flag of allotment `a` set (R147). -/
def State.markOwed (s : State) (a : Nat) : State :=
  { s with cle := { s.cle with owed := setOwed a s.cle.owed } }

/-- The owed flag of every allotment whose own holdings are above 0 is set (R149, R163). -/
def State.owesHoldings (s : State) : State :=
  { s with cle := { s.cle with owed :=
      (allotmentNumbers.filter (fun a => s.ownHoldings a != 0)).foldl (fun w a => setOwed a w) s.cle.owed } }

/-! ## The redeemed serial set and the member activity table -/

/-- Insertion of a pair into the redeemed serial set (R164). -/
def State.insertSerial (s : State) (c n : Nat) : State :=
  if s.pst.serials.contains (c, n) then s
  else if s.pst.serials.length < Config.maxSerials then
    { s with pst := { s.pst with serials := s.pst.serials ++ [(c, n)] } }
  else
    { s with pst := { s.pst with
        serials := s.pst.serials.drop 1 ++ [(c, n)],
        serialEvictions := saturate (s.pst.serialEvictions + 1) } }

/-- Removal of a pair, if it is there; the pairs after it keep their order (R160). -/
def State.removeSerial (s : State) (c n : Nat) : State :=
  { s with pst := { s.pst with serials := s.pst.serials.erase (c, n) } }

/-- The redeemed-today figure of a member, 0 with no entry (R165). -/
def State.redeemedToday (s : State) (m : Nat) : Nat :=
  match s.pst.members.find? (fun e => e.1 == m) with
  | some e => e.2
  | none => 0

/-- The member activity table holds an entry of member `m` (R165). -/
def State.hasMember (s : State) (m : Nat) : Bool := s.pst.members.any (fun e => e.1 == m)

/-- The entry of a member whose figure becomes `n`: it becomes the last updated, but for a figure that is `n` already, which is no
update (R165). -/
def State.updateMember (s : State) (m n : Nat) : State :=
  if s.redeemedToday m = n then s
  else { s with pst := { s.pst with members := s.pst.members.filter (fun e => e.1 != m) ++ [(m, n)] } }

/-- An entry inserted for a member that has none, the least recently updated entry leaving a full table (R165). -/
def State.insertMember (s : State) (m n : Nat) : State :=
  if s.pst.members.length < Config.maxMembers then
    { s with pst := { s.pst with members := s.pst.members ++ [(m, n)] } }
  else
    { s with pst := { s.pst with
        members := s.pst.members.drop 1 ++ [(m, n)],
        memberEvictions := saturate (s.pst.memberEvictions + 1) } }

/-- A member's figure raised by an accepted or locally allowed claim, held at 999,999; a member with no entry is inserted (R165). -/
def State.addRedeemed (s : State) (m p : Nat) : State :=
  let figure := min (s.redeemedToday m + p) Config.maxRedeemedToday
  if s.hasMember m then s.updateMember m figure else s.insertMember m figure

/-- A member's figure lowered by an accepted release, not below 0; a member with no entry is not inserted (R160, R165). -/
def State.subRedeemed (s : State) (m p : Nat) : State :=
  if s.hasMember m then s.updateMember m (s.redeemedToday m - p) else s

/-! ## The outgoing queue -/

/-- Free records of the outgoing queue (R135). -/
def State.queueRoom (s : State) : Nat := Config.maxQueue - s.cle.queue.length

/-- A record entered at the tail, stamped with the time base (R135). -/
def State.enqueue (s : State) (k : RecordKind) : State :=
  { s with cle := { s.cle with queue := s.cle.queue ++ [⟨k, 0, s.stc.timeBase⟩] } }

/-- An ALLOT_RELEASE entered at the tail, or the owed flag set when the queue is full (R144, R18, R145). -/
def State.releaseUnits (s : State) (a n : Nat) : State :=
  if s.queueRoom = 0 then s.markOwed a else s.enqueue (.allotRelease a n)

/-- The age in ms counted from a reading of the time base, taken modulo 2^32 (R141, R179). -/
def State.ageOf (s : State) (since : BitVec 32) : Nat := (s.stc.timeBase - since).toNat

/-- The slot a claim record belongs to (R135): a release, a PURGE, a SYNC_ASK and a detached claim belong to none. -/
def RecordKind.slot? (k : RecordKind) : Option (Fin 4) :=
  match k with
  | .allotClaim i _ _ | .serialClaim i _ _ | .pointsClaim i _ _ => i
  | _ => none

/-- Whether the queue holds an ALLOT_CLAIM of the basket in slot `i` (R9). -/
def State.hasAllotClaim (s : State) (i : Fin 4) : Bool :=
  s.cle.queue.any (fun r => match r.kind with
    | .allotClaim (some j) _ _ => j == i
    | _ => false)

/-- Whether the queue holds a POINTS_CLAIM of the basket in slot `i` (R11). -/
def State.hasPointsClaim (s : State) (i : Fin 4) : Bool :=
  s.cle.queue.any (fun r => match r.kind with
    | .pointsClaim (some j) _ _ => j == i
    | _ => false)

/-- The pending units of allotment `a` a record stands for, for the basket in slot `i` (R144). -/
def Record.pendingUnits (r : Record) (i : Fin 4) (a : Nat) : Nat :=
  match r.kind with
  | .allotClaim (some j) b n => if j = i ∧ b = a then n else 0
  | _ => 0

/-- The pending units of allotment `a` of the basket in slot `i`, queued and in flight (R144). -/
def State.pendingUnits (s : State) (i : Fin 4) (a : Nat) : Nat :=
  (s.cle.queue.map (fun r => r.pendingUnits i a)).sum

/-! ## Responses and notices -/

/-- A response in the making: status, detail and body (R184). -/
structure Reply where
  status : Status
  detail : Detail
  body   : Body
deriving DecidableEq, Repr

/-- OK with no detail and the given body. -/
def okReply (body : Body) : Reply := ⟨.ok, .none, body⟩

/-- OK with a named detail and the given body. -/
def okNamed (d : DetailName) (body : Body) : Reply := ⟨.ok, .named d, body⟩

/-- A refusal with no detail. -/
def refusal (st : Status) : Reply := ⟨st, .none, .none⟩

/-- A refusal with a named detail. -/
def refusalNamed (st : Status) (d : DetailName) : Reply := ⟨st, .named d, .none⟩

/-- A response posted to the tail of the response queue (R184). -/
def State.respond (s : State) (tag : Byte) (r : Reply) : State :=
  { s with tlp := { s.tlp with responses := s.tlp.responses ++ [⟨tag, r.status, r.detail, r.body⟩] } }

/-- A notice posted to the tail of the notice queue, or dropped with the notices-lost flag set; a read that is under way as the flag
becomes set began before it did (R187). -/
def State.notify (s : State) (n : Notice) : State :=
  if s.tlp.notices.length < Config.maxNotices then
    { s with tlp := { s.tlp with notices := s.tlp.notices ++ [n] } }
  else
    { s with tlp := { s.tlp with noticesLost := true, lossUnseen := s.tlp.lossUnseen || !s.tlp.noticesLost } }

/-- No transfer that is under way began before the notices-lost flag was set: a transfer has just ended (R187). -/
def State.sawLoss (s : State) : State := { s with tlp := { s.tlp with lossUnseen := false } }

/-! ## The time base -/

/-- A roster entry after `ms` more on the time base; its time since last heard is held at 65,535 s (R157). -/
def RosterEntry.elapse (e : RosterEntry) (ms : Nat) : RosterEntry :=
  { e with sinceHeard := e.sinceHeard.map (fun t => min (t + ms) Config.heardCapMs) }

/-- The join window after `ms` more (R174). -/
def JoinWindow.elapse (w : JoinWindow) (ms : Nat) : JoinWindow :=
  match w with
  | .running n => .running (n - ms)
  | w => w

/-- The FAULTED recheck interval after `ms` more (R131). -/
def BusState.elapse (b : BusState) (ms : Nat) : BusState :=
  match b with
  | .faulted n => .faulted (n + ms)
  | b => b

/-- A stretch after `ms` more (R125). -/
def FrameInHand.elapse (f : FrameInHand) (ms : Nat) : FrameInHand :=
  match f with
  | .stretching b v n => .stretching b v (n + ms)
  | f => f

/-- `ms` milliseconds pass on the time base: it rises by them, wrapping, and every span measured on it moves on (R179).
No event is taken here; the events that a span's end is are commands of their own. -/
def State.elapse (s : State) (ms : Nat) : State :=
  { s with
    stc := { s.stc with timeBase := s.stc.timeBase + BitVec.ofNat 32 ms, join := s.stc.join.elapse ms },
    atc := { s.atc with timer := s.atc.timer.map (· - ms) },
    cle := { s.cle with presence := s.cle.presence.map (· + ms) },
    pst := { s.pst with roster := s.pst.roster.map (fun e => (e.1, e.2.elapse ms)) },
    lbp := { s.lbp with bus := s.lbp.bus.map (·.elapse ms), frame := s.lbp.frame.elapse ms } }

/-- A PRESENCE is due when the presence timer has reached 10 s (R150). -/
def State.presenceDue (s : State) : Bool :=
  match s.cle.presence with
  | some t => decide (Config.presenceMs ≤ t)
  | none => false

/-! ## Events of the part -/

/-- A part held in reset takes no command but power-on (log entry 3). -/
def whenRunning (s : State) (k : State → State) : Result :=
  if s.inReset then .next s else .next (k s)

/-- Where claims cannot be sent: the bus is FAULTED, or the station is in STATION_CONFLICT (R143). -/
def State.cannotSend (s : State) : Bool :=
  s.pst.conflict || (match s.lbp.bus with
    | some (.faulted _) => true
    | _ => false)

end Sys2Proof.Machine
end

