-- ==== Sys2Proof/Machine/Frames.lean ====
section
/-!
DEFINITION. The lane frame as bytes: kind codes, layouts, the CRC, the reading of a heard frame's fields, and the numbers that
the wire gives enumerations (R117, R189, R191).
-/

namespace Sys2Proof.Machine

/-- The `n` bytes of a number, most significant first (R189). -/
def bytesOf (n x : Nat) : List Byte :=
  (List.range n).map (fun i => BitVec.ofNat 8 (x / 256 ^ (n - 1 - i)))

/-- The number that bytes stand for, most significant first (R189). -/
def numberOf (bs : List Byte) : Nat := bs.foldl (fun n b => n * 256 + b.toNat) 0

/-! ## The CRC -/

/-- One bit taken into the CRC register: its top bit combined with the bit, the register shifted left, and 0x1021
combined in when the combination was 1 (R191). -/
def crcBit (reg : Half) (bit : Bool) : Half :=
  if reg.msb != bit then (reg <<< 1) ^^^ 0x1021#16 else reg <<< 1

/-- One byte taken into the CRC register, most significant bit first (R116, R191). -/
def crcByte (reg : Half) (b : Byte) : Half :=
  [7, 6, 5, 4, 3, 2, 1, 0].foldl (fun r i => crcBit r (b.getLsbD i)) reg

/-- The CRC over bytes from the kind through the last payload byte; the register starts at all ones (R117, R191). -/
def crc (bs : List Byte) : Half := bs.foldl crcByte 0xFFFF#16

/-! ## Frames this station builds -/

/-- The kind byte of a frame (R117). -/
def Payload.code (p : Payload) : Byte :=
  match p with
  | .allotRelease _ _ => 0x10
  | .serialRelease _ _ => 0x11
  | .pointsRelease _ _ => 0x12
  | .allotClaim _ _ => 0x20
  | .serialClaim _ _ => 0x21
  | .pointsClaim _ _ => 0x22
  | .holdings _ _ _ => 0x30
  | .purge _ => 0x38
  | .syncAsk => 0x40
  | .presence _ _ => 0x48

/-- The payload bytes of a frame (R191). -/
def Payload.bytes (p : Payload) : List Byte :=
  match p with
  | .allotRelease a n | .allotClaim a n => bytesOf 1 a ++ bytesOf 1 n
  | .serialRelease c n | .serialClaim c n => bytesOf 1 c ++ bytesOf 6 n
  | .pointsRelease m p | .pointsClaim m p => bytesOf 5 m ++ bytesOf 3 p
  | .holdings a t n => bytesOf 1 a ++ bytesOf 1 t ++ bytesOf 2 n
  | .purge t => bytesOf 1 t
  | .syncAsk => []
  | .presence c n => bytesOf 1 c ++ bytesOf 1 n

/-- The bytes of a frame from its kind through its payload (R117). -/
def LaneFrame.body (f : LaneFrame) : List Byte :=
  f.payload.code :: (bytesOf 1 f.source ++ bytesOf 2 f.dayNumber.toNat ++ bytesOf 2 f.tableTag.toNat ++ f.payload.bytes)

/-- The bytes of a frame as sent, its CRC last (R117, R191). -/
def LaneFrame.bytes (f : LaneFrame) : List Byte := f.body ++ bytesOf 2 (crc f.body).toNat

/-- The frame this station builds around a payload (R117, R136). -/
def State.buildFrame (s : State) (p : Payload) : LaneFrame :=
  { source := s.stc.station, dayNumber := s.stc.dayNumber, tableTag := s.tableTag, payload := p }

/-! ## Frames heard -/

/-- The payload length of a kind, or none for an unknown kind (R117, R191). -/
def payloadLength (code : Byte) : Option Nat :=
  match code.toNat with
  | 0x10 | 0x20 => some 2
  | 0x11 | 0x21 => some 7
  | 0x12 | 0x22 => some 8
  | 0x30 => some 4
  | 0x38 => some 1
  | 0x40 => some 0
  | 0x48 => some 2
  | _ => none

/-- The kind byte of a heard frame; a frame of no bytes reads 0, which is no kind. -/
def heardKind (bs : List Byte) : Byte := bs.headD 0

/-- The source byte of a heard frame. -/
def heardSource (bs : List Byte) : Nat := (bs.getD 1 0).toNat

/-- The day number of a heard frame, once both its bytes are complete (R123). -/
def heardDay (bs : List Byte) : Option Half :=
  if bs.length < 4 then none else some (BitVec.ofNat 16 (numberOf ((bs.drop 2).take 2)))

/-- The table tag of a heard frame, once both its bytes are complete (R123). -/
def heardTag (bs : List Byte) : Option Half :=
  if bs.length < 6 then none else some (BitVec.ofNat 16 (numberOf ((bs.drop 4).take 2)))

/-- The wrong length: fewer than 8 bytes, or a known kind whose bytes are not header, payload and CRC (R123). -/
def wrongLength (bs : List Byte) : Bool :=
  decide (bs.length < 8) || (match payloadLength (heardKind bs) with
    | some n => bs.length != 8 + n
    | none => false)

/-- The CRC computed over the received bytes equals the received CRC (R124). -/
def crcMatches (bs : List Byte) : Bool :=
  (crc (bs.take (bs.length - 2))).toNat == numberOf (bs.drop (bs.length - 2))

/-- The payload of a heard frame of a known kind and right length (R191). -/
def heardPayload (bs : List Byte) : Option Payload :=
  let field (i n : Nat) : Nat := numberOf ((bs.drop (6 + i)).take n)
  match (heardKind bs).toNat with
  | 0x10 => some (.allotRelease (field 0 1) (field 1 1))
  | 0x11 => some (.serialRelease (field 0 1) (field 1 6))
  | 0x12 => some (.pointsRelease (field 0 5) (field 5 3))
  | 0x20 => some (.allotClaim (field 0 1) (field 1 1))
  | 0x21 => some (.serialClaim (field 0 1) (field 1 6))
  | 0x22 => some (.pointsClaim (field 0 5) (field 5 3))
  | 0x30 => some (.holdings (field 0 1) (field 1 1) (field 2 2))
  | 0x38 => some (.purge (field 0 1))
  | 0x40 => some .syncAsk
  | 0x48 => some (.presence (field 0 1) (field 1 1))
  | _ => none

/-- The fields of a release or announcement lie within their ranges (R158); a claim's and a PURGE's are judged by the
conflict tests. -/
def fieldsInRange (p : Payload) : Bool :=
  match p with
  | .allotRelease a n | .allotClaim a n => decide (a ≤ 31) && decide (1 ≤ n) && decide (n ≤ 99)
  | .serialRelease c n | .serialClaim c n => c != 0 && n != 0
  | .pointsRelease m p | .pointsClaim m p => m != 0 && p != 0
  | .holdings a t _ => decide (a ≤ 31) && decide (1 ≤ t) && decide (t ≤ 32)
  | .purge t => decide (1 ≤ t) && decide (t ≤ 32)
  | .syncAsk => true
  | .presence c n => decide (c ≤ 3) && decide (n ≤ 4)

/-- A lane class from its number on the wire (R189). -/
def laneClassOf (n : Nat) : Option LaneClass :=
  match n with
  | 0 => some .till
  | 1 => some .tradeCounter
  | 2 => some .selfCheckout
  | 3 => some .garden
  | _ => none

end Sys2Proof.Machine
end

