-- ==== Sys2Proof/Decode.lean ====
section
/-!
DEFINITION. Commands from bits. No row of spec/opcode_table.json gives bits, so no word spells a command by the table. The till link
does give its transfers and request records a layout in bytes (R181, R189, R190): `decodeTransfer` reads it.
-/

namespace Sys2Proof

/-- The command a word spells by the bits of spec/opcode_table.json: none, since no row of the table gives bits. -/
def decodeTableWord (_nbits _w : Nat) : Option Instr := none

namespace Machine

/-! ## Fields of a record -/

/-- The number of `n` bytes at offset `i` of a record; bytes that did not arrive read as 0 (R189). -/
def fieldAt (bs : List Byte) (i n : Nat) : Nat :=
  numberOf ((List.range n).map (fun k => bs.getD (i + k) 0))

/-- A one-byte field. -/
def byteAt (bs : List Byte) (i : Nat) : Byte := bs.getD i 0

/-- A two-byte field. -/
def halfAt (bs : List Byte) (i : Nat) : Half := BitVec.ofNat 16 (fieldAt bs i 2)

/-- A three-byte field. -/
def tripleAt (bs : List Byte) (i : Nat) : Triple := BitVec.ofNat 24 (fieldAt bs i 3)

/-- A four-byte field. -/
def quadAt (bs : List Byte) (i : Nat) : Quad := BitVec.ofNat 32 (fieldAt bs i 4)

/-- A flag byte: bit 0 of a flag set (R189). A flag byte of a request names one flag; its bits 1 to 7, of which the manual says nothing,
are not read, so that none of them makes a record malformed (log entry 40). -/
def flagAt (bs : List Byte) (i : Nat) : Bool := (byteAt bs i).getLsbD 0

/-- `n` one-byte items from offset `i`. -/
def bytesAt (bs : List Byte) (i n : Nat) : List Byte := (List.range n).map (fun k => byteAt bs (i + k))

/-- The header of a request record (R190). -/
def hdrOf (bs : List Byte) : Hdr := ⟨halfAt bs 0, byteAt bs 3⟩

/-! ## The longer records -/

/-- The configuration record of CONFIGURE, from offset 4 (R171). -/
def configFieldsOf (bs : List Byte) : ConfigFields :=
  { station := byteAt bs 4, laneClass := byteAt bs 5, bitRate := byteAt bs 6, restartPolicy := byteAt bs 7,
    allotPolicy := byteAt bs 8, serialPolicy := byteAt bs 9, pointsPolicy := byteAt bs 10, timeout := halfAt bs 11 }

/-- The table header of LOAD_BEGIN, from offset 4 (R27, R189). -/
def headerFieldsOf (bs : List Byte) : HeaderFields :=
  { tableTag := halfAt bs 4, cap := tripleAt bs 6, blockSize := tripleAt bs 9, blockValue := quadAt bs 12,
    rates := bytesAt bs 16 4, quantities := (List.range 32).map (fun k => halfAt bs (20 + 2 * k)),
    band1 := halfAt bs 84, band2 := halfAt bs 86, g1 := byteAt bs 88, g2 := byteAt bs 89, g3 := byteAt bs 90,
    gIncrease := byteAt bs 91, gZero := byteAt bs 92, gBasket := byteAt bs 93, gPoints := byteAt bs 94,
    threshold := quadAt bs 95 }

/-- The guard terms of LOAD_PROMO: a count at offset 8, then measure, relation and constant of each (R29, R189). -/
def termsOf (bs : List Byte) : List TermFields :=
  (List.range (byteAt bs 8).toNat).map (fun k =>
    ⟨byteAt bs (9 + 6 * k), byteAt bs (10 + 6 * k), quadAt bs (11 + 6 * k)⟩)

/-- The common fields of a promotion entry, from offset 6 (R29). -/
def promoCommonOf (bs : List Byte) : PromoCommon :=
  let after := 9 + 6 * (byteAt bs 8).toNat
  { group := byteAt bs 6, mask := byteAt bs 7, terms := termsOf bs, limit := byteAt bs after, skip := flagAt bs (after + 1) }

/-- The parameters of a promotion entry of kind `code`, from offset `i`; none for an undefined kind (R30, R189). -/
def promoParamsOf (bs : List Byte) (code i : Nat) : Option PromoParams :=
  match code with
  | 0 => some (.quantityBreak (byteAt bs i) (tripleAt bs (i + 1)) (quadAt bs (i + 4)))
  | 1 => some (.multibuy (byteAt bs i) (quadAt bs (i + 1)))
  | 2 => some (.allotmentPrice (byteAt bs i) (quadAt bs (i + 1)))
  | 3 => some (.percentOff (halfAt bs i) (quadAt bs (i + 2)))
  | 4 => some (.amountOff (quadAt bs i) (quadAt bs (i + 4)))
  | 5 => some (.coupon (byteAt bs i) (byteAt bs (i + 1)) (quadAt bs (i + 2)) (quadAt bs (i + 6)))
  | 6 => some (.pointsMultiplier (byteAt bs i))
  | _ => none

/-- The entry of LOAD_PROMO: its kind at offset 5, EMPTY being 0xFF (R37, R189). -/
def promoFieldsOf (bs : List Byte) : PromoFields :=
  if byteAt bs 5 = 0xFF then .empty
  else match promoParamsOf bs (byteAt bs 5).toNat (11 + 6 * (byteAt bs 8).toNat) with
    | some p => .entry (promoCommonOf bs) p
    | none => .undefinedKind (byteAt bs 5)

/-! ## Request records -/

/-- The command of a whole request record, by its type at offset 2, numbered in the order of the request reference (R189). `straps` is what
the strap pins read, should the record be a RESTART full (R172). None for an undefined type. -/
def decodeRecord (straps : BitVec 5) (bs : List Byte) : Option Instr :=
  let h := hdrOf bs
  match (byteAt bs 2).toNat with
  | 0x01 => some (.configure h (configFieldsOf bs))
  | 0x02 => some (.restart h (flagAt bs 4) straps)
  | 0x03 => some (.status h (flagAt bs 4))
  | 0x04 => some (.loadBegin h (headerFieldsOf bs))
  | 0x05 => some (.loadPromo h (byteAt bs 4) (promoFieldsOf bs))
  | 0x06 => some (.loadStaff h (halfAt bs 4) (byteAt bs 6) (quadAt bs 7))
  | 0x07 => some (.loadEnd h)
  | 0x08 => some (.dayOpen h (halfAt bs 4))
  | 0x09 => some (.dayClose h)
  | 0x0A => some (.setWindow h (byteAt bs 4) (byteAt bs 5))
  | 0x0B => some (.setTimeBand h (byteAt bs 4))
  | 0x0C => some (.signOn h (halfAt bs 4))
  | 0x0D => some (.signOff h)
  | 0x0E => some (.authorise h (halfAt bs 4))
  | 0x0F => some (.dropAuthority h)
  | 0x10 => some (.openBasket h)
  | 0x11 => some (.park h)
  | 0x12 => some (.recall h (byteAt bs 4))
  | 0x13 => some (.addLine h (quadAt bs 4) (byteAt bs 8) (tripleAt bs 9) (quadAt bs 12) (flagAt bs 16)
      (bytesAt bs 18 (byteAt bs 17).toNat))
  | 0x14 => some (.changeQty h (byteAt bs 4) (tripleAt bs 5))
  | 0x15 => some (.voidLine h (byteAt bs 4))
  | 0x16 => some (.presentCoupon h (byteAt bs 4) (BitVec.ofNat 48 (fieldAt bs 5 6)))
  | 0x17 => some (.withdrawCoupon h (byteAt bs 4) (BitVec.ofNat 48 (fieldAt bs 5 6)))
  | 0x18 => some (.setMember h (BitVec.ofNat 40 (fieldAt bs 4 5)) (byteAt bs 9) (tripleAt bs 10))
  | 0x19 => some (.clearMember h)
  | 0x1A => some (.redeemPoints h (tripleAt bs 4))
  | 0x1B => some (.override h (byteAt bs 4) (byteAt bs 5) (byteAt bs 6) (quadAt bs 7))
  | 0x1C => some (.cancelOverride h)
  | 0x1D => some (.total h)
  | 0x1E => some (.finalise h)
  | 0x1F => some (.reopen h)
  | 0x20 => some (.close h)
  | 0x21 => some (.voidBasket h (byteAt bs 4))
  | 0x22 => some (.readLine h (byteAt bs 4))
  | 0x23 => some (.readAdjustments h)
  | 0x24 => some (.readRoster h)
  | 0x25 => some (.readAllotment h (byteAt bs 4))
  | 0x26 => some (.purgeStation h (byteAt bs 4))
  | _ => none

/-- The command of the record a WRITE delivers: its request, or a discarded write when too few bytes arrived or its type is
undefined (R183). -/
def decodeWrite (straps : BitVec 5) (bs : List Byte) : Instr :=
  if bs.length < 4 ∨ bs.length < fieldAt bs 0 2 then .writeDiscarded bs
  else (decodeRecord straps (bs.take (max (fieldAt bs 0 2) 4))).getD (.writeDiscarded bs)

/-- The command of a whole transfer, from the bytes the till shifts in: a code, and what follows it. An undefined code is a
POLL (R181, R190). -/
def decodeTransfer (straps : BitVec 5) (bs : List Byte) : Instr :=
  match (byteAt bs 0).toNat with
  | 0xA1 => decodeWrite straps (bs.drop 1)
  | 0xA2 => .readResponse (bs.length - 1)
  | 0xA3 => .readNotice (bs.length - 1) false
  | _ => .poll

end Machine

end Sys2Proof
end

