-- ==== Sys2Proof/Machine/Arith.lean ====
section
/-!
DEFINITION. The arithmetic of Price and Points Arithmetic that needs no state of a scan: rounding, extended amounts, stage-A
amounts and the one apportionment procedure (R66 to R69).
-/

namespace Sys2Proof.Machine

/-- Half-up division of `x` by an even divisor `d` (R66). -/
def halfUp (x d : Nat) : Nat := (x + d / 2) / d

/-- The extended amount at unit price `b` of quantity `q` (R67, R19). -/
def extendedAmount (m : Measure) (b q : Nat) : Nat :=
  match m with
  | .each => b * q
  | .millimetre | .gram => halfUp (b * q) 1000

/-- The base unit price of a line: its PRICE override's when it has one, its catalogue price otherwise (R67). -/
def basePrice (price : Nat) (o : Option LineOverride) : Nat :=
  match o with
  | some (.price p) => p
  | _ => price

/-- The stage-A amount from the extended amount `e`: lowered by a LINE_DISCOUNT, and `e` otherwise (R68). -/
def discounted (e : Nat) (o : Option LineOverride) : Nat :=
  match o with
  | some (.discountAmount d) => e - d
  | some (.discountRate p) => e - halfUp (e * p) 10000
  | _ => e

/-- The stage-A amount of a line with the given entered fields (R67, R68). -/
def stageAmount (m : Measure) (price q : Nat) (o : Option LineOverride) : Nat :=
  discounted (extendedAmount m (basePrice price o) q) o

/-- The catalogue extended amount of a line (R19). -/
def Line.catalogue (l : Line) : Nat := extendedAmount l.measure l.price l.qty

/-- The stage-A amount of a line as its entered fields and applied override stand (R89). -/
def Line.stageAmount (l : Line) : Nat :=
  Sys2Proof.Machine.stageAmount l.measure l.price l.qty (l.override.map (·.value))

/-- The basket gross: the sum of the catalogue extended amounts of the live lines (R19). -/
def basketGross (ls : List Line) : Nat :=
  ((ls.filter (·.live)).map Line.catalogue).sum

/-- The sum of the stage-A amounts of the live lines (R89). -/
def stageSum (ls : List Line) : Nat :=
  ((ls.filter (·.live)).map Line.stageAmount).sum

/-- How many participants come before participant `i` for a leftover unit: those of larger remainder, and those of equal
remainder earlier in the stated order (R69, step 4). -/
def leftoverRank (rems : List Nat) (i r : Nat) : Nat :=
  (rems.zipIdx.filter (fun e => decide (r < e.1) || (e.1 == r && decide (e.2 < i)))).length

/-- Apportionment of the amount `A` over participants of the given weights, in their order (R69). With a weight sum of 0
no share is given. -/
def apportion (A : Nat) (weights : List Nat) : List Nat :=
  let n := weights.sum
  if n = 0 then weights.map (fun _ => 0)
  else
    let bases := weights.map (fun w => A * w / n)
    let rems := weights.map (fun w => A * w % n)
    let leftover := A - bases.sum
    (bases.zip rems).zipIdx.map (fun e =>
      if leftoverRank rems e.2 e.1.2 < leftover then e.1.1 + 1 else e.1.1)

end Sys2Proof.Machine
end

