-- ==== Sys2Proof/Machine/Pricing.lean ====
section
/-!
DEFINITION. What each step of a scan does to the scan's working record: the stages A to G over the reading, the window's
course, guards, unit consumption, adjustments and shares, coupon results, wants, points, redemption and the summary
(The Evaluation Engine; Price and Points Arithmetic). The parts of an adjustment are kept as one number per line of the
reading, in line order, a line that takes no part having 0.
-/

namespace Sys2Proof.Machine

/-! ## The reading of a basket -/

/-- A line as the scan reads it at its start, with nothing priced yet (R47). -/
def readLine (l : Line) : WLine :=
  { number := l.number, measure := l.measure, qty := l.qty, price := l.price, groups := l.groups,
    eligible := l.eligible, live := l.live, override := l.override.map (·.value),
    base := l.price, tier := none, consumedUnits := 0, consumedFlag := false, shares := [],
    extended := 0, stageA := 0, net := 0, factor := 1, points := 0 }

/-- A coupon as the scan reads it (R47). -/
def readCoupon (c : Coupon) : WCoupon :=
  { id := c.id, cls := c.cls, serial := c.serial, state := c.state, amount := 0 }

/-- The scan of slot `i` as it starts: inputs latched, the basket read, the working record empty (R47). -/
def newScan (i : Fin 4) (stc : Stc) (b : Basket) : Scan :=
  { slot := i, first := stc.windowFirst, last := stc.windowLast, band := stc.band, revision := b.revision,
    member := b.member, request := b.request, outcome := b.points,
    lines := b.lines.map readLine, coupons := b.coupons.map readCoupon,
    discount := b.discount.map (·.value), award := b.award.map (·.value),
    adjustments := [], wants := [], provisional := false, truncated := false, stageE := 0, pointsEarned := 0 }

/-! ## Stage A -/

/-- Stage A of one line: base price, extended amount, stage-A amount and working net of a LIVE line; a VOIDED line has
none of them (R51, R67, R68). -/
def stageALine (l : WLine) : WLine :=
  if l.live then
    let b := basePrice l.price l.override
    let e := extendedAmount l.measure b l.qty
    let a := discounted e l.override
    { l with base := b, extended := e, stageA := a, net := a }
  else l

/-- Stage A of the scan (R51). -/
def stageAScan (sc : Scan) : Scan := { sc with lines := sc.lines.map stageALine }

/-! ## Figures of the working record -/

/-- A LIVE line with a PRICE or LINE_DISCOUNT override is an override line (R51). -/
def WLine.overridden (l : WLine) : Bool := l.override.isSome

/-- A line is in a group when the group is 0 or in its list of groups (R29). -/
def inGroup (g : Nat) (l : WLine) : Bool := g == 0 || l.groups.contains g

/-- A line that takes part in stages B to D for group `g`: LIVE, no override line, in the group (R51, R53 to R55). -/
def takesPart (g : Nat) (l : WLine) : Bool := l.live && !l.overridden && inGroup g l

/-- The current unit price: the tier price when stage B set one, the base price otherwise (R71). -/
def WLine.current (l : WLine) : Nat := l.tier.getD l.base

/-- The free units of an EACH line; a measured line has none that are counted (R54, R71). -/
def WLine.freeUnits (l : WLine) : Nat :=
  match l.measure with
  | .each => l.qty - l.consumedUnits
  | .millimetre | .gram => 0

/-- The free value of a line (R71). -/
def WLine.freeValue (l : WLine) : Nat :=
  match l.measure with
  | .each => l.freeUnits * l.current
  | .millimetre | .gram => if l.consumedFlag then 0 else l.extended

/-- The catalogue extended amount of a line of the reading. -/
def WLine.catalogue (l : WLine) : Nat := extendedAmount l.measure l.price l.qty

/-- The sum of `f` over the lines that `p` picks. -/
def lineSum (p : WLine → Bool) (f : WLine → Nat) (ls : List WLine) : Nat :=
  (ls.map (fun l => if p l then f l else 0)).sum

/-- The basket gross of the reading (R51, R82). -/
def Scan.gross (sc : Scan) : Nat := lineSum (·.live) WLine.catalogue sc.lines

/-- The live line count of the reading (R51). -/
def Scan.liveLines (sc : Scan) : Nat := lineSum (·.live) (fun _ => 1) sc.lines

/-- The basket's working net (R78, R82). -/
def Scan.net (sc : Scan) : Nat := lineSum (·.live) (·.net) sc.lines

/-! ## Guards -/

/-- The truth of a relation between a figure and a constant (R32). -/
def Relation.holds (r : Relation) (figure constant : Nat) : Bool :=
  match r with
  | .equal => figure == constant
  | .unequal => figure != constant
  | .above => decide (constant < figure)
  | .atLeast => decide (constant ≤ figure)
  | .below => decide (figure < constant)
  | .atMost => decide (figure ≤ constant)

/-- A lane class as the number the LANE_CLASS measure and the wire give it (R31, R189). -/
def LaneClass.number (c : LaneClass) : Nat :=
  match c with
  | .till => 0
  | .tradeCounter => 1
  | .selfCheckout => 2
  | .garden => 3

/-- The figure of a guard measure at a visit, absent for MEMBER_TIER with no member (R31, R32, R52). -/
def guardFigure (sc : Scan) (group lane : Nat) (m : GuardMeasure) : Option Nat :=
  let live (l : WLine) : Bool := l.live && inGroup group l
  match m with
  | .basketGross => some sc.gross
  | .liveLines => some sc.liveLines
  | .groupSpend => some (lineSum live (·.net) sc.lines)
  | .groupUnits => some (lineSum live (fun l => match l.measure with
      | .each => l.qty
      | .millimetre | .gram => 1) sc.lines)
  | .memberTier => sc.member.map (·.tier)
  | .laneClass => some lane

/-- A guard term's truth at a visit (R32). -/
def termHolds (sc : Scan) (group lane : Nat) (t : GuardTerm) : Bool :=
  match guardFigure sc group lane t.measure with
  | some figure => t.relation.holds figure t.constant
  | none => false

/-- The stage in which an entry is visited (R30). -/
def PromoKind.stage (k : PromoKind) : VisitStage :=
  match k with
  | .quantityBreak _ _ _ => .b
  | .multibuy _ _ | .allotmentPrice _ _ | .percentOff _ _ => .c
  | .amountOff _ _ | .coupon _ _ _ => .d
  | .pointsMultiplier _ => .f

/-- The kind an entry's adjustments carry (R58). -/
def PromoKind.adjKind (k : PromoKind) : AdjKind :=
  match k with
  | .quantityBreak _ _ _ => .quantityBreak
  | .multibuy _ _ => .multibuy
  | .allotmentPrice _ _ => .allotmentPrice
  | .percentOff _ _ => .percentOff
  | .amountOff _ _ => .amountOff
  | .coupon _ _ _ => .coupon
  | .pointsMultiplier _ => .pointsMultiplier

/-- An entry applies at its visit in stage `st`: its kind is of the stage, the latched band is in its mask and its guard
holds (R33, R52, steps 2 to 4). -/
def entryApplies (sc : Scan) (lane : Nat) (st : VisitStage) (e : PromoEntry) : Bool :=
  (e.kind.stage == st) && e.mask.getLsbD sc.band && e.terms.all (termHolds sc e.group lane)

/-! ## Writing an adjustment -/

/-- A line with one share more, its net lowered by it; a part of 0 records no share (R59). -/
def addShare (index part : Nat) (l : WLine) : WLine :=
  if part = 0 then l else { l with shares := l.shares ++ [(index, part)], net := l.net - part }

/-- Whether an adjustment of these parts finds room: fewer than 64 adjustments, and no line that would gain a ninth
share (R58, R59). -/
def hasRoom (sc : Scan) (parts : List Nat) : Bool :=
  decide (sc.adjustments.length < Config.maxAdjustments) &&
  (sc.lines.zip parts).all (fun e => e.2 == 0 || decide (e.1.shares.length < Config.maxShares))

/-- The scan with an adjustment written and its shares given (R58, R59). -/
def writeAdjustment (sc : Scan) (entry : Option Nat) (kind : AdjKind) (amount : Nat) (units : Option Nat)
    (coupon : Option (Nat × Nat)) (parts : List Nat) : Scan :=
  let index := sc.adjustments.length + 1
  { sc with
    adjustments := sc.adjustments ++ [⟨index, entry, kind, amount, units, coupon⟩],
    lines := List.zipWith (addShare index) parts sc.lines }

/-- The scan with the truncation mark set: an adjustment was skipped for lack of room (R58, R59). -/
def truncate (sc : Scan) : Scan := { sc with truncated := true }

/-! ## Stage B -/

/-- A candidate of a QUANTITY_BREAK entry: a participant of its measure kind, not tiered, of base price above the tier
price (R53, R70). -/
def tierCandidate (group : Nat) (m : Measure) (t : Nat) (l : WLine) : Bool :=
  takesPart group l && l.measure == m && l.tier.isNone && decide (t < l.base)

/-- A QUANTITY_BREAK entry that applies (R53, R70). -/
def quantityBreak (sc : Scan) (n : Nat) (e : PromoEntry) (m : Measure) (threshold t : Nat) : Scan :=
  let qualifying := lineSum (fun l => takesPart e.group l && l.measure == m) (·.qty) sc.lines
  if qualifying < threshold then sc
  else
    let parts := sc.lines.map (fun l =>
      if tierCandidate e.group m t l then l.extended - extendedAmount m t l.qty else 0)
    if parts.sum = 0 then sc
    else if !hasRoom sc parts then truncate sc
    else
      let tiered := { sc with lines := sc.lines.map (fun l =>
        if tierCandidate e.group m t l then { l with tier := some t, extended := extendedAmount m t l.qty } else l) }
      writeAdjustment tiered (some n) .quantityBreak parts.sum none none parts

/-! ## Stage C -/

/-- One unit more of a price into units ordered by price, highest first, behind those of equal price (R72). -/
def insertUnit (u : Nat × Nat) : List (Nat × Nat) → List (Nat × Nat)
  | [] => [u]
  | v :: t => if v.2 < u.2 then u :: v :: t else v :: insertUnit u t

/-- Lines (by place in the reading, with price) ordered by price, highest first, and by place among equals (R72). -/
def orderByPrice (ls : List (Nat × Nat)) : List (Nat × Nat) :=
  ls.foldl (fun acc u => insertUnit u acc) []

/-- The free units of the lines a MULTIBUY draws from, one by one in set order, each with its line's place and price (R72). -/
def multibuyUnits (group : Nat) (ls : List WLine) : List (Nat × Nat) :=
  let candidates := ls.zipIdx.filter (fun e => takesPart group e.1 && decide (0 < e.1.freeUnits))
  (orderByPrice (candidates.map (fun e => (e.2, e.1.current)))).flatMap (fun u =>
    List.replicate ((ls.map WLine.freeUnits).getD u.1 0) u)

/-- The sets a MULTIBUY applies, from the front of its units: of size `k`, each of price sum above the set price, as many
as the limit allows, 0 being no limit (R72). `fuel` bounds the sets by the units there are. -/
def formSets (k setPrice limit : Nat) : Nat → Nat → List (Nat × Nat) → List (List (Nat × Nat))
  | 0, _, _ => []
  | fuel + 1, applied, units =>
    let next := units.take k
    if units.length < k ∨ (0 < limit ∧ limit ≤ applied) ∨ (next.map (·.2)).sum ≤ setPrice then []
    else next :: formSets k setPrice limit fuel (applied + 1) (units.drop k)

/-- The parts of one set's discount: the line's place and the part of each of its units (R73). -/
def setParts (setPrice : Nat) (set : List (Nat × Nat)) : List (Nat × Nat) :=
  let prices := set.map (·.2)
  (set.map (·.1)).zip (apportion (prices.sum - setPrice) prices)

/-- The sum of the numbers given to place `i`. -/
def sumAt (i : Nat) (ps : List (Nat × Nat)) : Nat :=
  ((ps.filter (fun p => p.1 == i)).map (·.2)).sum

/-- A MULTIBUY entry that applies (R72, R73). -/
def multibuy (sc : Scan) (n : Nat) (e : PromoEntry) (k setPrice : Nat) : Scan :=
  let units := multibuyUnits e.group sc.lines
  let sets := formSets k setPrice e.limit units.length 0 units
  if sets.isEmpty then sc
  else
    let shared := sets.flatMap (setParts setPrice)
    let parts := sc.lines.zipIdx.map (fun l => sumAt l.2 shared)
    let amount := (sets.map (fun set => (set.map (·.2)).sum - setPrice)).sum
    if !hasRoom sc parts then truncate sc
    else
      let used := sets.flatten
      let consumed := { sc with lines := sc.lines.zipIdx.map (fun l =>
        { l.1 with consumedUnits := l.1.consumedUnits + (used.filter (fun u => u.1 == l.2)).length }) }
      writeAdjustment consumed (some n) .multibuy amount (some (k * sets.length)) none parts

/-- Units assigned to lines in line order, the earliest line's free units first, until `count` is reached (R74). -/
def assignUnits (picks : WLine → Bool) : Nat → List WLine → List Nat
  | _, [] => []
  | count, l :: t =>
    let here := if picks l then min count l.freeUnits else 0
    here :: assignUnits picks (count - here) t

/-- The want of an ALLOTMENT_PRICE entry at its visit (R61, R74). -/
def allotWant (sc : Scan) (e : PromoEntry) (special : Nat) : Nat :=
  let qualifies (l : WLine) : Bool := takesPart e.group l && decide (0 < l.freeUnits)
  match sc.lines.find? qualifies with
  | none => 0
  | some first =>
    if first.current ≤ special then 0 else min (lineSum qualifies WLine.freeUnits sc.lines) e.limit

/-- An ALLOTMENT_PRICE entry that applies, with the basket's held units of its allotment as they stand (R61, R74). -/
def allotmentPrice (sc : Scan) (n : Nat) (e : PromoEntry) (allotment special held : Nat) : Scan :=
  let want := allotWant sc e special
  let counts := assignUnits (takesPart e.group) (min want held) sc.lines
  let parts := List.zipWith (fun c l => c * (l.current - special)) counts sc.lines
  let wanting := { sc with
    wants := countSet allotment want sc.wants,
    provisional := sc.provisional || decide (held < want) }
  if parts.sum = 0 then wanting
  else if !hasRoom sc parts then truncate sc
  else
    let consumed := { wanting with lines := List.zipWith (fun c l =>
      { l with consumedUnits := l.consumedUnits + c }) counts sc.lines }
    writeAdjustment consumed (some n) .allotmentPrice parts.sum (some counts.sum) none parts

/-- The units a PERCENT_OFF entry consumes of a line: its free EACH units, or one for a free measured line (R75). -/
def WLine.freeCount (l : WLine) : Nat :=
  match l.measure with
  | .each => l.freeUnits
  | .millimetre | .gram => if l.consumedFlag then 0 else 1

/-- A line with all that was free of it consumed (R75). -/
def WLine.consumeAll (l : WLine) : WLine :=
  match l.measure with
  | .each => { l with consumedUnits := l.qty }
  | .millimetre | .gram => { l with consumedFlag := true }

/-- A PERCENT_OFF entry that applies (R75). -/
def percentOff (sc : Scan) (n : Nat) (e : PromoEntry) (rate minimum : Nat) : Scan :=
  let weights := sc.lines.map (fun l => if takesPart e.group l then l.freeValue else 0)
  let spend := weights.sum
  let discount := halfUp (spend * rate) 10000
  if spend < minimum ∨ spend = 0 ∨ discount = 0 then sc
  else
    let parts := apportion discount weights
    if !hasRoom sc parts then truncate sc
    else
      let units := lineSum (takesPart e.group) WLine.freeCount sc.lines
      let consumed := { sc with lines := sc.lines.map (fun l =>
        if takesPart e.group l then l.consumeAll else l) }
      writeAdjustment consumed (some n) .percentOff discount (some units) none parts

/-! ## Stage D -/

/-- The kinds of stage C and stage D, whose shares the skip-discounted flag looks for (R55). -/
def AdjKind.discountsItems (k : AdjKind) : Bool :=
  match k with
  | .multibuy | .allotmentPrice | .percentOff | .amountOff | .coupon => true
  | .quantityBreak | .pointsMultiplier | .basketDiscount => false

/-- Whether a line carries a share from a stage C adjustment, or an earlier stage D one, of this scan (R55). A participant whose part was 0
has no share (R59), so it takes part again here, though R55 says that every participant is left with one (log entry 42). -/
def alreadyDiscounted (sc : Scan) (l : WLine) : Bool :=
  l.shares.any (fun sh => sc.adjustments.any (fun a => a.index == sh.1 && a.kind.discountsItems))

/-- The weights of a stage D entry's participants: their working nets as they stand (R55, R69). -/
def basketWeights (sc : Scan) (e : PromoEntry) : List Nat :=
  sc.lines.map (fun l =>
    if takesPart e.group l && !(e.skip && alreadyDiscounted sc l) then l.net else 0)

/-- An AMOUNT_OFF entry that applies (R55, R76). -/
def amountOff (sc : Scan) (n : Nat) (e : PromoEntry) (threshold amount : Nat) : Scan :=
  let weights := basketWeights sc e
  let spend := weights.sum
  if spend < threshold ∨ spend = 0 then sc
  else
    let discount := min amount spend
    let parts := apportion discount weights
    if discount = 0 then sc
    else if !hasRoom sc parts then truncate sc
    else writeAdjustment sc (some n) .amountOff discount none none parts

/-- The value a coupon gives on a spend (R77). -/
def couponValue (v : CouponValue) (threshold spend : Nat) : Nat :=
  if spend < threshold ∨ spend = 0 then 0
  else match v with
    | .amount n => min n spend
    | .percent p => halfUp (spend * p) 10000

/-- The coupons of the reading with the amount of the coupon `id` recorded (R55, R60). -/
def recordCoupon (id amount : Nat) (cs : List WCoupon) : List WCoupon :=
  cs.map (fun c => if c.id == id then { c with amount := amount } else c)

/-- One matched coupon tested on the spend as it stands, and written if it gives a value and finds room (R55, R58, R77). -/
def testCoupon (n : Nat) (e : PromoEntry) (v : CouponValue) (threshold : Nat) (sc : Scan) (c : WCoupon) : Scan :=
  let weights := basketWeights sc e
  let value := couponValue v threshold weights.sum
  if value = 0 then sc
  else
    let parts := apportion value weights
    if !hasRoom sc parts then truncate sc
    else
      let written := writeAdjustment sc (some n) .coupon value none (some (c.cls, c.serial)) parts
      { written with coupons := recordCoupon c.id value written.coupons }

/-- The coupons a COUPON entry matches: those of its class that are not REFUSED, in list order, up to its limit, 0
matching all (R55). -/
def matchedCoupons (sc : Scan) (cls limit : Nat) : List WCoupon :=
  let all := sc.coupons.filter (fun c => c.cls == cls && c.state != .refused)
  if limit = 0 then all else all.take limit

/-- A COUPON entry that applies (R55, R77). -/
def couponEntry (sc : Scan) (n : Nat) (e : PromoEntry) (cls : Nat) (v : CouponValue) (threshold : Nat) : Scan :=
  (matchedCoupons sc cls e.limit).foldl (testCoupon n e v threshold) sc

/-! ## Stage F, the window visits -/

/-- A POINTS_MULTIPLIER entry that applies offers its factor; each LIVE line keeps the largest, an override line keeps 1 (R57). -/
def offerFactor (sc : Scan) (e : PromoEntry) (factor : Nat) : Scan :=
  { sc with lines := sc.lines.map (fun l =>
      if takesPart e.group l then { l with factor := max l.factor factor } else l) }

/-- What an applying entry does, by its kind (R52, step 5; R53 to R57). -/
def applyEntry (sc : Scan) (n : Nat) (e : PromoEntry) (held : Nat → Nat) : Scan :=
  match e.kind with
  | .quantityBreak m threshold t => quantityBreak sc n e m threshold t
  | .multibuy k p => multibuy sc n e k p
  | .allotmentPrice a special => allotmentPrice sc n e a special (held a)
  | .percentOff rate minimum => percentOff sc n e rate minimum
  | .amountOff threshold amount => amountOff sc n e threshold amount
  | .coupon cls v threshold => couponEntry sc n e cls v threshold
  | .pointsMultiplier factor => offerFactor sc e factor

/-! ## The course through the window -/

/-- Where the engine stands after its visit to the window's last entry of a stage (R51). -/
def afterStage (st : VisitStage) (sc : Scan) : Position :=
  match st with
  | .b => .visit .c sc.first
  | .c => .visit .d sc.first
  | .d => .e
  | .f => .f

/-- The position after the visit to entry `n`: the next entry of the window, in window order, or the next stage (R41, R52). -/
def nextPosition (st : VisitStage) (n : Nat) (sc : Scan) : Position :=
  if n = sc.last then afterStage st sc else .visit st ((n + 1) % 256)

/-- The position after stage E: stage F visits the window only when the scan latched a member (R57). -/
def afterStageE (sc : Scan) : Position :=
  match sc.member with
  | some _ => .visit .f sc.first
  | none => .f

/-! ## Stages E, F and G -/

/-- Stage E: the BASKET_DISCOUNT override over all LIVE lines (R56, R78). -/
def stageEScan (sc : Scan) : Scan :=
  match sc.discount with
  | none => sc
  | some amount =>
    let weights := sc.lines.map (fun l => if l.live then l.net else 0)
    let limited := min amount weights.sum
    let parts := apportion limited weights
    if limited = 0 then sc
    else if !hasRoom sc parts then truncate sc
    else { writeAdjustment sc none .basketDiscount limited none none parts with stageE := limited }

/-- The points of one line at tier rate `r` (R79). -/
def linePoints (r : Nat) (l : WLine) : Nat :=
  if l.live && l.eligible then l.net * r * (if l.overridden then 1 else l.factor) / 100 else 0

/-- The points step of stage F: each line's points and the points earned, 0 with no member (R79, R80). -/
def stageFScan (rates : List Nat) (sc : Scan) : Scan :=
  match sc.member with
  | none => { sc with lines := sc.lines.map (fun l => { l with points := 0 }), pointsEarned := 0 }
  | some m =>
    let r := rates.getD m.tier 0
    let lines := sc.lines.map (fun l => { l with points := linePoints r l })
    { sc with lines := lines,
              pointsEarned := min ((lines.map (·.points)).sum + sc.award.getD 0) Config.maxPoints }

/-- Stage G: the redemption's blocks, from the member's redeemed-today figure as it stands (R81). -/
def redemptionBlocks (sc : Scan) (cap blockSize blockValue redeemedToday : Nat) : Nat :=
  match sc.member with
  | none => 0
  | some m =>
    let byOutcome := match sc.outcome with
      | .none => sc.request
      | .refused => 0
      | .granted g => min sc.request g
    let ownGrant := match sc.outcome with
      | .granted g => g
      | _ => 0
    let room := cap - (redeemedToday - ownGrant)
    let figure := min (min byOutcome m.balance) room
    min (figure / blockSize) (sc.net / blockValue)

/-! ## The summary -/

/-- The promotion discount: the sum of the amounts of the adjustments of stages B, C and D (R82). -/
def Scan.promotionDiscount (sc : Scan) : Nat :=
  ((sc.adjustments.filter (fun a => a.kind != .basketDiscount)).map (·.amount)).sum

/-- The sum of the stage-A amounts of the LIVE lines (R82). -/
def Scan.stageASum (sc : Scan) : Nat := lineSum (·.live) (·.stageA) sc.lines

/-- The number of coupons with an adjustment in this scan (R60). -/
def Scan.applyingCoupons (sc : Scan) : Nat := (sc.coupons.filter (fun c => c.amount != 0)).length

/-- The summary a completing scan publishes on a basket (R63, R82). -/
def summaryOf (sc : Scan) (b : Basket) (points value : Nat) : Summary :=
  { revision := sc.revision, gross := sc.gross,
    overrideReduction := (sc.gross : Int) - sc.stageASum + sc.stageE,
    promotionDiscount := sc.promotionDiscount, net := sc.net,
    redemptionPoints := points, redemptionValue := value, payable := sc.net - value,
    pointsEarned := sc.pointsEarned, liveLines := sc.liveLines, applyingCoupons := sc.applyingCoupons,
    flags := { provisional := sc.provisional, truncated := sc.truncated, withdrawn := b.withdrawn,
               redeemClamped := decide (points < sc.request), localDecision := b.localMark } }

/-! ## What completion writes -/

/-- The computed fields of a line record as completion writes them from the working record (R62). -/
def writeLine (w : WLine) (l : Line) : Line :=
  if l.live then
    { l with tier := w.tier, consumedUnits := w.consumedUnits, consumedFlag := w.consumedFlag, shares := w.shares,
             extended := w.extended, net := w.net, points := w.points }
  else
    { l with tier := none, consumedUnits := 0, consumedFlag := false, shares := [], extended := 0, net := 0, points := 0 }

/-- The line list after completion: the records of the reading written, the lines added since left as they are (R62). -/
def writeLines : List WLine → List Line → List Line
  | w :: ws, l :: ls => writeLine w l :: writeLines ws ls
  | _, ls => ls

/-- The state and applied value a completion writes to a coupon record that was in the reading (R60). -/
def writeCoupon (amount : Nat) (c : Coupon) : Coupon :=
  match c.state with
  | .presented | .applying | .notApplicable =>
    { c with state := if amount = 0 then .notApplicable else .applying, applied := amount }
  | .redeeming | .redeemed => { c with applied := amount }
  | .refused => { c with applied := 0 }

/-- The coupon list after completion: a record of the reading is written, any other left as it is (R60). -/
def writeCoupons (ws : List WCoupon) (cs : List Coupon) : List Coupon :=
  cs.map (fun c => match ws.find? (fun w => w.id == c.id) with
    | some w => writeCoupon w.amount c
    | none => c)

/-- The basket after completion: lines, adjustment list, coupons and summary written whole, and the withdrawal marker
cleared by a current completion (R62, R63). The lines of the reading are those a scan has priced (R19). -/
def completeBasket (sc : Scan) (points value : Nat) (b : Basket) : Basket :=
  { b with
    lines := writeLines sc.lines b.lines,
    coupons := writeCoupons sc.coupons b.coupons,
    adjustments := sc.adjustments,
    summary := summaryOf sc b points value,
    withdrawn := b.withdrawn && sc.revision != b.revision,
    pricedLines := sc.lines.length }

end Sys2Proof.Machine
end

