-- ==== Sys2Proof/Machine/Engine.lean ====
section
/-!
DEFINITION. The evaluation engine on the whole state: starting a scan, triggers and restart policies, abandoning, the raise
of a basket's revision, and the examination of a waiting TOTAL (R24, R45 to R50, R65).
-/

namespace Sys2Proof.Machine

/-- A scan of the active slot starts: the engine becomes SCANNING, the wanted flag is cleared, the inputs are latched, the
basket is read, and the position becomes stage A (R47). With no active basket nothing starts. -/
def State.startScan (s : State) : State :=
  match s.bst.active with
  | none => s
  | some i => match s.bst.get i with
    | none => s
    | some b => { s with eve := { s.eve with scan := some (newScan i s.stc b), wanted := false, position := .a } }

/-- The restart policy in force; with no configuration record no scan can run, and FOLLOW is read (R45). -/
def State.restartPolicy (s : State) : RestartPolicy :=
  match s.stc.config with
  | some c => c.restartPolicy
  | none => .follow

/-- A trigger: in IDLE it starts a scan; in SCANNING the restart policy RESTART abandons the scan and starts another, and
FOLLOW sets the wanted flag (R46, R48, R49). -/
def State.trigger (s : State) : State :=
  match s.eve.scan with
  | none => s.startScan
  | some _ => match s.restartPolicy with
    | .restart => s.startScan
    | .follow => { s with eve := { s.eve with wanted := true } }

/-- The active basket is in a state that the engine scans (R2, R46). -/
def State.activeScanned (s : State) : Bool :=
  match s.bst.active with
  | none => false
  | some i => match s.bst.get i with
    | none => false
    | some b => b.state.scanned

/-- A trigger that comes from a window or band change: only while the active basket is scanned (R46). -/
def State.triggerActive (s : State) : State :=
  if s.activeScanned then s.trigger else s

/-- The basket with its revision raised by one, wrapping (R24); in F4 the raise returns finalisation to F3 (R12). -/
def raisedBasket (b : Basket) : Basket :=
  { b with revision := b.revision + 1,
           state := match b.state with
             | .finalising .f4 tag => .finalising .f3 tag
             | st => st }

/-- The basket of slot `i` has its revision raised, which is a trigger while it is the active basket and scanned (R24, R46). -/
def State.raiseRevision (s : State) (i : Fin 4) : State :=
  let s' := s.updateBasket i raisedBasket
  if s'.bst.active = some i then s'.triggerActive else s'

/-- Each basket of the slots an event touched has its revision raised once, however many times the event wrote to it (R24). -/
def State.raiseAll (s : State) (touched : List (Fin 4)) : State :=
  slotNumbers.foldl (fun s i => if touched.contains i then s.raiseRevision i else s) s

/-- A scan in progress is abandoned with nothing written; the position stays (R50). -/
def State.abandonScan (s : State) : State :=
  { s with eve := { s.eve with scan := none, wanted := false } }

/-- The waiting TOTAL, if there is one, is answered NO_BASKET (R50, R65). -/
def State.dropTotal (s : State) : State :=
  match s.eve.waitingTotal with
  | none => s
  | some tag => { s with eve := { s.eve with waitingTotal := none } }.respond tag (refusal .noBasket)

/-- The summary and the basket agree in revision (R24). -/
def Basket.current (b : Basket) : Bool := b.summary.revision == b.revision

/-- The engine is IDLE and the basket's summary is current (R9, R65). -/
def State.priced (s : State) (b : Basket) : Bool := s.eve.scan.isNone && b.current

/-- A waiting TOTAL is answered when the engine is IDLE and the active basket's summary is current, and waits on
otherwise (R65). -/
def State.examineTotal (s : State) : State :=
  match s.eve.waitingTotal, s.bst.active with
  | some tag, some i => match s.bst.get i with
    | some b =>
      if s.priced b then
        { s with eve := { s.eve with waitingTotal := none } }.respond tag (okReply (.total i b.summary))
      else s
    | none => s
  | _, _ => s

end Sys2Proof.Machine
end

