-- ==== Sys2Proof/Machine/Claims.lean ====
section
/-!
DEFINITION. The claims engine on the whole state: the pre-check, the outcomes of records and announcements, degrade
policies, resolution at a fault, releases, reconciliation of wants, and the choice of the frame to offer (Shared Claims).
An event's writes to baskets are gathered in `Ev.touched`, so that each basket's revision is raised once for the event (R24).
-/

namespace Sys2Proof.Machine

/-- A state in the middle of an event, with the slots whose baskets the event has written so far. -/
structure Ev where
  state   : State
  touched : List (Fin 4)
deriving DecidableEq, Repr

/-- An event that begins on `s`. -/
def Ev.start (s : State) : Ev := ⟨s, []⟩

/-- The end of an event: each basket it wrote has its revision raised once (R24). -/
def Ev.finish (e : Ev) : State := e.state.raiseAll e.touched

/-- The event with a change that touches no basket's revision. -/
def Ev.map (e : Ev) (f : State → State) : Ev := { e with state := f e.state }

/-- The basket of slot `i` written by the event. -/
def Ev.write (e : Ev) (i : Fin 4) (f : Basket → Basket) : Ev :=
  { state := e.state.updateBasket i f, touched := i :: e.touched }

/-! ## What a claim's end writes to its basket -/

/-- The state written to the basket's coupon of that class and serial, which a list holds at most once (R102, R106). -/
def settleCoupon (cls serial : Nat) (st : CouponState) (b : Basket) : Basket :=
  { b with coupons := b.coupons.map (fun c =>
      if c.cls == cls && c.serial == serial then { c with state := st } else c) }

/-- A grant of a claim of slot `i` written to its basket (R138, R142). -/
def grantTo (k : RecordKind) (b : Basket) : Basket :=
  match k with
  | .allotClaim _ a n => { b with held := countSet a (countGet a b.held + n) b.held }
  | .serialClaim _ c n => settleCoupon c n .redeemed b
  | .pointsClaim _ _ p => { b with points := .granted p }
  | _ => b

/-- The tables of this station with a granted claim taken in (R138, R142). An ALLOT_CLAIM raises the own column through
the basket's held units (R161). -/
def takeGrant (k : RecordKind) (s : State) : State :=
  match k with
  | .serialClaim _ c n => s.insertSerial c n
  | .pointsClaim _ m p => s.addRedeemed m p
  | _ => s

/-- A claim REFUSED, or settled by DENY, with its effect on its basket: none for units, the coupon REFUSED, the points
outcome REFUSED (R139, R142). -/
def Ev.refuseClaim (e : Ev) (k : RecordKind) : Ev :=
  match k with
  | .serialClaim (some i) c n => e.write i (settleCoupon c n .refused)
  | .pointsClaim (some i) _ _ => e.write i (fun b => { b with points := .refused })
  | _ => e

/-- The response of a PURGE record's end to the PURGE_STATION that waits (R153); other records answer nothing. -/
def answerPurge (k : RecordKind) (r : Reply) (s : State) : State :=
  match k with
  | .purge _ tag => s.respond tag r
  | _ => s

/-! ## The pre-check -/

/-- The conflict tests of R158 on this station's tables, for a heard claim and for the station's own pre-check (R137). -/
def claimConflicts (s : State) (p : Payload) : Bool :=
  match p with
  | .allotClaim a n =>
    decide (s.quantity a < s.allotTotal a + n) || s.quantity a == 0 || decide (31 < a) || n == 0 || decide (99 < n)
  | .serialClaim c n => s.pst.serials.contains (c, n) || c == 0 || n == 0
  | .pointsClaim m p => decide (s.redemptionCap < s.redeemedToday m + p) || m == 0 || p == 0
  | .purge t =>
    (match tableGet t s.pst.roster with
      | some e => e.state == .present
      | none => false) || t == s.stc.station || t == 0 || decide (32 < t)
  | _ => false

/-- The payload a record is built into (R136, R191). -/
def RecordKind.payload (k : RecordKind) : Payload :=
  match k with
  | .allotClaim _ a n => .allotClaim a n
  | .serialClaim _ c n => .serialClaim c n
  | .pointsClaim _ m p => .pointsClaim m p
  | .allotRelease a n => .allotRelease a n
  | .serialRelease c n => .serialRelease c n
  | .pointsRelease m p => .pointsRelease m p
  | .purge t _ => .purge t
  | .syncAsk => .syncAsk

/-- The pre-check refuses the record (R137). -/
def precheckRefuses (s : State) (k : RecordKind) : Bool := claimConflicts s k.payload

/-! ## Degrade policies and unsettled records -/

/-- The degrade policy of a claim's class; with no configuration record DENY is read (R142). -/
def State.policyFor (s : State) (k : RecordKind) : Degrade :=
  match s.stc.config with
  | none => .deny
  | some c => match k with
    | .serialClaim _ _ _ => c.serialPolicy
    | .pointsClaim _ _ _ => c.pointsPolicy
    | _ => c.allotPolicy

/-- A claim attached to slot `i` resolved by its class's policy, the pre-check first (R142). -/
def Ev.resolveByPolicy (e : Ev) (i : Fin 4) (k : RecordKind) : Ev :=
  if precheckRefuses e.state k then e.refuseClaim k
  else match e.state.policyFor k with
    | .deny => e.refuseClaim k
    | .allow =>
      let owing : State → State := match k with
        | .allotClaim _ a _ => fun s => s.markOwed a
        | _ => id
      (e.map (fun s => owing (takeGrant k s))).write i (fun b => { grantTo k b with localMark := true })

/-- The join window begins at the end of the SYNC_ASK (R151, R174). -/
def State.startJoinWindow (s : State) : State :=
  match s.stc.join with
  | .waiting => { s with stc := { s.stc with join := .running Config.joinWindowMs } }
  | _ => s

/-- What an UNSETTLED record does on leaving CLE (R141). -/
def Ev.unsettle (e : Ev) (k : RecordKind) : Ev :=
  match k with
  | .allotClaim (some i) _ _ | .serialClaim (some i) _ _ | .pointsClaim (some i) _ _ => e.resolveByPolicy i k
  | .allotClaim none _ _ | .serialClaim none _ _ | .pointsClaim none _ _ => e
  | .allotRelease a _ => e.map (fun s => s.markOwed a)
  | .serialRelease _ _ | .pointsRelease _ _ => e
  | .purge _ tag => e.map (fun s => s.respond tag (refusal .laneDown))
  | .syncAsk => e.map State.startJoinWindow

/-- The record at place `n` leaves the queue, the records after it closing up (R135). -/
def State.dropRecord (s : State) (n : Nat) : State :=
  { s with cle := { s.cle with queue := s.cle.queue.eraseIdx n } }

/-- The head record leaves the queue and is no longer in flight. -/
def State.dropHead (s : State) : State :=
  { s with cle := { s.cle with queue := s.cle.queue.drop 1, inFlight := .none } }

/-- One claim, SYNC_ASK or PURGE of the queue ended at the entry to FAULTED or STATION_CONFLICT (R143); releases stay. -/
def Ev.endAtFault (e : Ev) (r : Record) : Ev :=
  match r.kind with
  | .allotRelease _ _ | .serialRelease _ _ | .pointsRelease _ _ => e
  | k => e.unsettle k

/-- A record that stays in the queue at the entry to FAULTED or STATION_CONFLICT (R143). -/
def RecordKind.staysAtFault (k : RecordKind) : Bool :=
  match k with
  | .allotRelease _ _ | .serialRelease _ _ | .pointsRelease _ _ => true
  | _ => false

/-- Resolution at the entry to FAULTED or STATION_CONFLICT: every claim in the queue is resolved in queue order, a
SYNC_ASK and a PURGE end, releases stay (R143). -/
def Ev.faultResolution (e : Ev) : Ev :=
  let records := e.state.cle.queue
  let kept := e.map (fun s => { s with cle := { s.cle with
    queue := s.cle.queue.filter (fun r => r.kind.staysAtFault), inFlight := .none } })
  records.foldl Ev.endAtFault kept

/-- A claim of slot `i` is called for: resolved at once where claims cannot be sent, and entered at the tail otherwise
(R143, R135). The caller has seen that there is room. -/
def Ev.enterClaim (e : Ev) (i : Fin 4) (k : RecordKind) : Ev :=
  if e.state.cannotSend then e.resolveByPolicy i k else e.map (fun s => s.enqueue k)

/-! ## Outcomes of records -/

/-- ACCEPTED: the head record leaves, is applied to this station's tables and written to its basket (R138, R145, R161). -/
def Ev.acceptHead (e : Ev) (k : RecordKind) : Ev :=
  let left := e.map State.dropHead
  match k with
  | .allotClaim (some i) _ _ | .serialClaim (some i) _ _ | .pointsClaim (some i) _ _ =>
    (left.map (takeGrant k)).write i (grantTo k)
  | .allotClaim none a n => left.map (fun s => s.releaseUnits a n)
  | .serialClaim none _ _ | .pointsClaim none _ _ => left.map (takeGrant k)
  | .allotRelease _ _ => left
  | .serialRelease c n => left.map (fun s => s.removeSerial c n)
  | .pointsRelease m p => left.map (fun s => s.subRedeemed m p)
  | .purge t tag => left.map (fun s => (s.purgeColumn t).respond tag (okReply .none))
  | .syncAsk => left.map State.startJoinWindow

/-- Nothing is in flight any more; what was stays where it is in CLE. -/
def State.landed (s : State) : State := { s with cle := { s.cle with inFlight := .none } }

/-- The records that R139 takes out of the queue when they are REFUSED: the claims and a PURGE. -/
def RecordKind.refusable (k : RecordKind) : Bool :=
  match k with
  | .allotClaim _ _ _ | .serialClaim _ _ _ | .pointsClaim _ _ _ | .purge _ _ => true
  | .allotRelease _ _ | .serialRelease _ _ | .pointsRelease _ _ | .syncAsk => false

/-- REFUSED by a listener's conflict slot or by the pre-check: a claim or a PURGE leaves the queue (R139). A release or a SYNC_ASK, to
which R139 gives no effect, stays at the head with its attempts unchanged (log entry 12). -/
def Ev.refuseHead (e : Ev) (k : RecordKind) : Ev :=
  if k.refusable then ((e.map State.dropHead).refuseClaim k).map (answerPurge k (refusal .peerRefused))
  else e.map State.landed

/-- A claim detached by VOID_BASKET (R145). -/
def RecordKind.detached (k : RecordKind) : Bool :=
  match k with
  | .allotClaim none _ _ | .serialClaim none _ _ | .pointsClaim none _ _ => true
  | _ => false

/-- NOT_TAKEN: the head stays with its attempts raised; at the fourth, or past its age, it is UNSETTLED; a detached claim
leaves without effect (R140, R141, R145). -/
def Ev.headNotTaken (e : Ev) (r : Record) : Ev :=
  if r.kind.detached then e.map State.dropHead
  else if Config.maxAttempts ≤ r.attempts + 1 ∨ Config.claimAgeMs ≤ e.state.ageOf r.enqueued then
    (e.map State.dropHead).unsettle r.kind
  else e.map (fun s => { s with cle := { s.cle with
    queue := modifyAt 0 (fun r => { r with attempts := r.attempts + 1 }) s.cle.queue, inFlight := .none } })

/-! ## Outcomes of announcements -/

/-- The owed flag or echo mark an announcement was built from is cleared (R138, R141, R148). -/
def clearAnnounced (k : AnnouncementKind) (s : State) : State :=
  match k with
  | .holdings a t =>
    if t = s.stc.station then { s with cle := { s.cle with owed := clearOwed a s.cle.owed } }
    else { s with cle := { s.cle with echoes := s.cle.echoes.erase (a, t) } }
  | .presence => s

/-- The presence timer restarts at 0, so that a PRESENCE waiting in hand is no longer due and leaves CLE (R150). -/
def State.restartPresence (s : State) : State :=
  { s with cle := { s.cle with
    presence := s.cle.presence.map (fun _ => 0),
    announcement := match s.cle.announcement with
      | some a => if a.kind = .presence then none else some a
      | none => none } }

/-- What LBP has in flight once the announcement in hand is gone: the head record may be in flight still. -/
def InFlight.withoutAnnouncement (f : InFlight) : InFlight :=
  match f with
  | .announcement => .none
  | f => f

/-- The announcement in hand leaves CLE (R138, R140, R141). -/
def State.dropAnnouncement (s : State) : State :=
  { s with cle := { s.cle with announcement := none, inFlight := s.cle.inFlight.withoutAnnouncement } }

/-- An announcement accepted: it leaves, and what it was built from is cleared (R138). -/
def Ev.acceptAnnouncement (e : Ev) (a : Announcement) : Ev :=
  e.map (fun s => clearAnnounced a.kind s.dropAnnouncement)

/-- An UNSETTLED announcement is dropped; a dropped PRESENCE restarts the presence timer (R141, R150). -/
def unsettleAnnouncement (k : AnnouncementKind) (s : State) : State :=
  match k with
  | .presence => s.dropAnnouncement.restartPresence
  | .holdings _ _ => clearAnnounced k s.dropAnnouncement

/-- An announcement NOT_TAKEN: it stays in hand with its attempts raised, and is UNSETTLED at the fourth or past its age
(R140, R141). A PRESENCE that reached its slots leaves instead: see `Ev.outcome`. -/
def Ev.announcementNotTaken (e : Ev) (a : Announcement) : Ev :=
  if Config.maxAttempts ≤ a.attempts + 1 ∨ Config.claimAgeMs ≤ e.state.ageOf a.firstOffer then
    e.map (unsettleAnnouncement a.kind)
  else e.map (fun s => { s with cle := { s.cle with
    announcement := some { a with attempts := a.attempts + 1 }, inFlight := .none } })

/-! ## The outcome LBP hands back -/

/-- The three outcomes of a frame sent (R126). -/
inductive FrameOutcome where
  | accepted | refused | notTaken
deriving DecidableEq, Repr

/-- The outcome handed to CLE for what is in flight (R138 to R141). `reached` says that the frame reached its slots, at
which a PRESENCE leaves CLE whatever they read (R140, R150). An announcement REFUSED, to which R139 gives no effect, stays in hand
with its attempts unchanged (log entry 12). -/
def Ev.outcome (e : Ev) (o : FrameOutcome) (reached : Bool) : Ev :=
  match e.state.cle.inFlight with
  | .none => e
  | .head => match e.state.cle.queue with
    | [] => e.map State.landed
    | r :: _ => match o with
      | .accepted => e.acceptHead r.kind
      | .refused => e.refuseHead r.kind
      | .notTaken => e.headNotTaken r
  | .announcement => match e.state.cle.announcement with
    | none => e.map State.landed
    | some a =>
      if o ≠ .accepted ∧ reached ∧ a.kind = .presence then e.map State.dropAnnouncement
      else match o with
        | .accepted => e.acceptAnnouncement a
        | .refused => e.map State.landed
        | .notTaken => e.announcementNotTaken a

/-! ## The frame to offer -/

/-- The head of the queue after every record the pre-check refuses has reached REFUSED; `fuel` is the queue's length
(R136, step 1; R137). -/
def Ev.offerQueue : Nat → Ev → Ev
  | 0, e => e
  | fuel + 1, e => match e.state.cle.queue with
    | [] => e
    | r :: _ => if precheckRefuses e.state r.kind then Ev.offerQueue fuel (e.refuseHead r.kind) else e

/-- The announcement CLE would take now, in the order of R136, step 3. -/
def State.nextAnnouncement (s : State) : Option AnnouncementKind :=
  match allotmentNumbers.find? (fun a => s.cle.owed.getLsbD a) with
  | some a => some (.holdings a s.stc.station)
  | none => match s.cle.echoes with
    | (a, t) :: _ => some (.holdings a t)
    | [] => if s.presenceDue then some .presence else none

/-- The number of basket slots that are not FREE (R136). -/
def State.openBaskets (s : State) : Nat := (slotNumbers.filter (fun i => (s.bst.get i).isSome)).length

/-- The payload an announcement is built into, on the figures as they stand (R136). -/
def announcementPayload (s : State) (k : AnnouncementKind) : Payload :=
  match k with
  | .holdings a t => .holdings a t (s.column a t)
  | .presence => .presence ((s.stc.config.map (fun c => c.laneClass.number)).getD 0) s.openBaskets

/-- The frame CLE offers, in flight once LBP takes it: the head record, the announcement in hand, a new announcement, or
nothing (R136). -/
def Ev.offer (e : Ev) : Ev × Option Payload :=
  let e := Ev.offerQueue e.state.cle.queue.length e
  match e.state.cle.queue with
  | r :: _ =>
    (e.map (fun s => { s with cle := { s.cle with inFlight := .head } }), some r.kind.payload)
  | [] => match e.state.cle.announcement with
    | some a =>
      (e.map (fun s => { s with cle := { s.cle with inFlight := .announcement } }),
        some (announcementPayload e.state a.kind))
    | none => match e.state.nextAnnouncement with
      | some k =>
        (e.map (fun s => { s with cle := { s.cle with
            announcement := some ⟨k, 0, s.stc.timeBase⟩, inFlight := .announcement } }),
          some (announcementPayload e.state k))
      | none => (e, none)

/-! ## Reconciliation of wants -/

/-- Reconciliation of allotment `a` for the basket of slot `i` with want `w` (R144). -/
def reconcileOne (i : Fin 4) (wants : Counts) (e : Ev) (a : Nat) : Ev :=
  match e.state.bst.get i with
  | none => e
  | some b =>
    let w := countGet a wants
    let h := countGet a b.held
    let p := e.state.pendingUnits i a
    if h + p < w ∧ (b.state = .trading ∨ b.state = .held) then
      if e.state.cannotSend ∨ 0 < e.state.queueRoom then
        e.enterClaim i (.allotClaim (some i) a (w - h - p))
      else e
    else if w < h then
      (e.write i (fun b => { b with held := countSet a w b.held })).map (fun s => s.releaseUnits a (h - w))
    else e

/-- Reconciliation of the 32 wants handed over at a completion, in rising order (R144). -/
def Ev.reconcile (e : Ev) (i : Fin 4) (wants : Counts) : Ev :=
  allotmentNumbers.foldl (reconcileOne i wants) e

/-! ## Re-announcement and peers' asks -/

/-- An echo mark placed among the marks, which are kept in the order R136 offers them, lowest allotment and then lowest
subject first; a mark already present is not entered twice (R148). -/
def insertEcho (m : Nat × Nat) : List (Nat × Nat) → List (Nat × Nat)
  | [] => [m]
  | x :: t =>
    if m = x then x :: t
    else if m.1 < x.1 ∨ (m.1 = x.1 ∧ m.2 < x.2) then m :: x :: t
    else x :: insertEcho m t

/-- Echo marks for every allotment this station's table shows station `t` holding (R163). Each mark is entered unless that mark is
present, also while other marks of `t` are still pending (log entry 45). -/
def State.markEchoes (s : State) (t : Nat) : State :=
  { s with cle := { s.cle with echoes :=
      (allotmentNumbers.filter (fun a => s.column a t != 0)).foldl (fun es a => insertEcho (a, t) es) s.cle.echoes } }

end Sys2Proof.Machine
end

