-- ==== Sys2Proof/Machine/Peers.lean ====
section
/-!
DEFINITION. The peer state tables at work on a heard frame: the filter, the judgement, the roster update and the application
of an accepted frame (Peer State Tables; R124).
-/

namespace Sys2Proof.Machine

/-! ## The filter -/

/-- The frame is foreign: its day number or its table tag, once complete, differs from this station's (R156). -/
def State.foreign (s : State) (bs : List Byte) : Bool :=
  (match heardDay bs with
    | some d => d != s.stc.dayNumber
    | none => false) ||
  (match heardTag bs with
    | some t => t != s.tableTag
    | none => false)

/-- The frame has the right length for its kind and a matching CRC; an unknown kind has no length of its own, and its
frame need only have a whole header and CRC (R123, R157). -/
def intact (bs : List Byte) : Bool := !wrongLength bs && crcMatches bs

/-- The frame is a suspected duplicate: its source byte is this station's own number (R166). -/
def State.suspected (s : State) (bs : List Byte) : Bool :=
  decide (2 ≤ bs.length) && heardSource bs == s.stc.station

/-- A station number that a frame can come from (R117). -/
def stationInRange (t : Nat) : Bool := decide (1 ≤ t) && decide (t ≤ 32)

/-! ## The judgement -/

/-- What the verdict's steps find (R124, R158). -/
inductive Judgement where
  | foreign | wrongLength | crcFailure | unknownKind | conflict | outOfRange | agreed
deriving DecidableEq, Repr

/-- The judgement of a received frame on the tables as they stand, step by step (R124, R158). A release or announcement that is out of
range and also bears a source of 0 or above 32 is a conflict, and is not counted as ignored (log entry 38). -/
def State.judge (s : State) (bs : List Byte) : Judgement :=
  if s.foreign bs then .foreign
  else if wrongLength bs then .wrongLength
  else if !crcMatches bs then .crcFailure
  else match heardPayload bs with
    | none => .unknownKind
    | some p =>
      if !stationInRange (heardSource bs) || claimConflicts s p then .conflict
      else if !fieldsInRange p then .outOfRange
      else .agreed

/-- The verdict a judgement gives (R124, R158). -/
def Judgement.verdict (j : Judgement) : Verdict :=
  match j with
  | .wrongLength | .crcFailure => .decline
  | .conflict => .conflict
  | .foreign | .unknownKind | .outOfRange | .agreed => .silence

/-- The lane counters with the one that `f` writes changed. -/
def State.count (s : State) (f : LaneCounters → LaneCounters) : State :=
  { s with lbp := { s.lbp with counters := f s.lbp.counters } }

/-- The counters a judgement raises: CRC failures, or frames ignored (R124, R158). -/
def Judgement.counted (j : Judgement) (s : State) : State :=
  match j with
  | .crcFailure => s.count (fun c => { c with crcFailures := saturate (c.crcFailures + 1) })
  | .unknownKind | .outOfRange => { s with pst := { s.pst with ignored := saturate (s.pst.ignored + 1) } }
  | .foreign | .wrongLength | .conflict | .agreed => s

/-- The verdict this station drives: none for a foreign frame, for which it drives no slot (R123, R124), none for a suspected duplicate,
and none while in STATION_CONFLICT (R166, R167). -/
def State.drives (s : State) (bs : List Byte) (v : Verdict) : Verdict :=
  if s.foreign bs || s.suspected bs || s.pst.conflict then .silence else v

/-- The entry to STATION_CONFLICT that an intact duplicate reveals: the flag, the notice and the resolution of the queue; a
further duplicate does nothing (R166, R167). -/
def Ev.meetDuplicate (e : Ev) (bs : List Byte) : Ev :=
  if e.state.suspected bs && intact bs && !e.state.pst.conflict then
    (e.map (fun s =>
      { s with pst := { s.pst with conflict := true } }.notify
        (.stationConflict s.stc.station (heardKind bs)))).faultResolution
  else e

/-! ## The roster -/

/-- A roster entry at its opening values (R157). -/
def RosterEntry.opening : RosterEntry :=
  { state := .absent, dayNumber := none, tableTag := none, laneClass := none, openBaskets := none,
    sinceHeard := none, framesHeard := 0, foreignNoticed := false }

/-- The roster entry of station `t`. -/
def State.rosterEntry (s : State) (t : Nat) : RosterEntry := (tableGet t s.pst.roster).getD .opening

/-- The lane class and open baskets after a frame: those of a PRESENCE that carries a defined class and 0..4 baskets (R157). -/
def RosterEntry.takePresence (e : RosterEntry) (p : Option Payload) : RosterEntry :=
  match p with
  | some (.presence c n) => match laneClassOf c with
    | some k => if n ≤ 4 then { e with laneClass := some k, openBaskets := some n } else e
    | none => e
  | _ => e

/-- A roster entry updated by an intact frame (R157). -/
def RosterEntry.update (e : RosterEntry) (foreign : Bool) (bs : List Byte) : RosterEntry :=
  { e.takePresence (heardPayload bs) with
    state := if foreign then .foreign else .present,
    dayNumber := heardDay bs,
    tableTag := heardTag bs,
    sinceHeard := some 0,
    framesHeard := saturate (e.framesHeard + 1),
    foreignNoticed := e.foreignNoticed || foreign }

/-- The notice of an entry's first FOREIGN of the day (R156). -/
def State.noticeForeign (s : State) (bs : List Byte) : State :=
  s.notify (.peerForeign (heardSource bs) ((heardDay bs).getD 0) ((heardTag bs).getD 0))

/-- The roster after a frame received through its conflict slot (R156, R157). A frame that is not intact, or that bears no
station's number or this station's own, updates no entry. -/
def State.updateRoster (s : State) (bs : List Byte) : State :=
  if intact bs && stationInRange (heardSource bs) && !s.suspected bs then
    let old := s.rosterEntry (heardSource bs)
    let written := { s with pst := { s.pst with
      roster := tablePut (heardSource bs) (old.update (s.foreign bs) bs) s.pst.roster } }
    if s.foreign bs && !old.foreignNoticed then written.noticeForeign bs else written
  else s

/-! ## Application -/

/-- The sold count of allotment `a` set. -/
def State.setSold (s : State) (a n : Nat) : State :=
  { s with cle := { s.cle with sold := countSet a (saturate n) s.cle.sold } }

/-- The units of allotment `a` held by the slots that are not FREE (R146). -/
def State.heldUnits (s : State) (a : Nat) : Nat :=
  heldIn s.bst.s0 a + heldIn s.bst.s1 a + heldIn s.bst.s2 a + heldIn s.bst.s3 a

/-- An accepted HOLDINGS applied (R162). -/
def State.applyHoldings (s : State) (a t n : Nat) : State :=
  if t ≠ s.stc.station then s.writeColumn a t n
  else match s.stc.day with
    | .joining => s.setSold a (max (countGet a s.cle.sold) (n - s.heldUnits a))
    | .trading => if n = s.ownHoldings a then s else s.markOwed a
    | _ => s

/-- A heard frame of source `r` applied (R160 to R163). -/
def State.applyHeard (s : State) (r : Nat) (p : Payload) : State :=
  match p with
  | .allotClaim a n => s.writeColumn a r (s.column a r + n)
  | .allotRelease a n => s.writeColumn a r (s.column a r - n)
  | .serialClaim c n => s.insertSerial c n
  | .serialRelease c n => s.removeSerial c n
  | .pointsClaim m n => s.addRedeemed m n
  | .pointsRelease m n => s.subRedeemed m n
  | .holdings a t n => s.applyHoldings a t n
  | .purge t => s.purgeColumn t
  | .syncAsk => s.owesHoldings.markEchoes r
  | .presence _ _ => s

/-- The law of application: a frame received through both slots high is applied when it is not foreign, is intact, of a known
kind, with its fields in range, and from a peer (R160, R161, R166). -/
def State.applyFrame (s : State) (bs : List Byte) : State :=
  match heardPayload bs with
  | some p =>
    if !s.foreign bs && intact bs && fieldsInRange p && stationInRange (heardSource bs) && !s.suspected bs then
      s.applyHeard (heardSource bs) p
    else s
  | none => s

end Sys2Proof.Machine
end

