-- ==== Sys2Proof/Machine/Lane.lean ====
section
/-!
DEFINITION. The events of the lane bus, one meaning each (The Lane Bus). An event whose conditions do not hold does not come about,
and leaves the state as it is (log entry 5).
-/

namespace Sys2Proof.Machine

/-! ## Shared changes of the port -/

/-- The port as OFF: no bus state, no frame in hand, no tenure; counters and LANE_LOST kept (R118, R133). -/
def State.portOff (s : State) : State :=
  { s with lbp := { s.lbp with bus := none, quiet := false, closing := false, frame := .none, tenure := 0 } }

/-- The bus state set, with what is known of the last idle interval. -/
def State.setBus (s : State) (b : BusState) (quiet : Bool) : State :=
  { s with lbp := { s.lbp with bus := some b, quiet := quiet } }

/-- The frame in hand set. -/
def State.setFrame (s : State) (f : FrameInHand) : State := { s with lbp := { s.lbp with frame := f } }

/-- The frame in hand and the tenure ended (R127). -/
def State.endTenure (s : State) : State := { s with lbp := { s.lbp with frame := .none, tenure := 0 } }

/-- The station is sending a frame. -/
def FrameInHand.isSending (f : FrameInHand) : Bool :=
  match f with
  | .sending _ => true
  | _ => false

/-- The station is stretching LC. -/
def FrameInHand.isStretching (f : FrameInHand) : Bool :=
  match f with
  | .stretching _ _ _ => true
  | _ => false

/-- The bus is BUSY or IDLE, in which states LBP receives frames and watches for a hang (R123, R129). -/
def State.busLive (s : State) : Bool :=
  match s.lbp.bus with
  | some .busy | some .idle => true
  | _ => false

/-- LBP and its notice at the entry to FAULTED (R131). -/
def State.fault (s : State) : State :=
  let counted := (s.setBus (.faulted 0) false).count (fun c => { c with faultedEntries := saturate (c.faultedEntries + 1) })
  { counted with lbp := { counted.lbp with laneLost := true } }.notify (.laneState true true)

/-- The entry to FAULTED: LBP's part, then the resolution of the queue (R131, R143). -/
def Ev.enterFaulted (e : Ev) : Ev := (e.map State.fault).faultResolution

/-- The frame that LBP takes from CLE: built from the state as it stands, and sent from now on (R120, R127). -/
def State.take (s : State) (p : Payload) (tenure : Nat) : State :=
  { s with lbp := { s.lbp with bus := some .busy, quiet := false, frame := .sending (s.buildFrame p), tenure := tenure } }

/-! ## The meanings -/

/-- BUS_IDLE: both lines have been high for the idle interval. In BUSY the bus becomes IDLE; a received frame that had not
reached its slots ends there (R119, R128). -/
def execBusIdle (s : State) : Result :=
  whenRunning s fun s =>
    if s.busLive && !s.lbp.frame.isSending && !s.lbp.frame.isStretching then
      (s.setBus .idle true).setFrame .none
    else s

/-- FRAME_BEGIN: with the bus IDLE and quiet, no frame in hand and no STATION_CONFLICT, the frame CLE offers is taken
(R120, R136). -/
def execFrameBegin (s : State) : Result :=
  whenRunning s fun s =>
    if s.lbp.bus = some .idle ∧ s.lbp.quiet ∧ s.lbp.frame = .none ∧ !s.pst.conflict then
      let offered := (Ev.start s).offer
      (match offered.2 with
        | some p => offered.1.map (fun s => s.take p 1)
        | none => offered.1).finish
    else s

/-- CLE at an arbitration loss: nothing is in flight any more, and a record or announcement past its age is UNSETTLED at
the loss (R121, R136, R141). -/
def Ev.loseArbitration (e : Ev) : Ev :=
  let lost := e.map State.landed
  match e.state.cle.inFlight with
  | .none => e
  | .head => match e.state.cle.queue with
    | [] => lost
    | r :: _ =>
      if Config.claimAgeMs ≤ e.state.ageOf r.enqueued then (e.map State.dropHead).unsettle r.kind else lost
  | .announcement => match e.state.cle.announcement with
    | none => lost
    | some a =>
      if Config.claimAgeMs ≤ e.state.ageOf a.firstOffer then e.map (unsettleAnnouncement a.kind) else lost

/-- ARBITRATION_LOSS: in the kind or source byte of the first frame of a tenure, the sender becomes a listener for the
frame (R121). After DAY_CLOSE the port has no frame left to complete, and turns OFF (R133). -/
def execArbitrationLoss (s : State) : Result :=
  whenRunning s fun s =>
    if s.lbp.frame.isSending ∧ s.lbp.tenure = 1 then
      let counted := s.count (fun c => { c with arbitrationLosses := saturate (c.arbitrationLosses + 1) })
      if s.lbp.closing then counted.portOff
      else (((Ev.start counted).loseArbitration).map (fun s => s.endTenure.setFrame .receiving)).finish
    else s

/-- COLLISION_ABORT: the sender aborts its frame, the outcome is NOT_TAKEN and the tenure ends (R122, R140). After
DAY_CLOSE no outcome is handed on and the port turns OFF at the stop (R133). -/
def execCollisionAbort (s : State) : Result :=
  whenRunning s fun s =>
    if s.lbp.frame.isSending then
      let counted := s.count (fun c => { c with collisions := saturate (c.collisions + 1) })
      if s.lbp.closing then counted.portOff
      else (((Ev.start counted).map State.endTenure).outcome .notTaken false).finish
    else s

/-- The outcome a sender reads from the two slots (R126). -/
def slotOutcome (declineHigh conflictHigh : Bool) : FrameOutcome :=
  match conflictHigh, declineHigh with
  | false, _ => .refused
  | true, true => .accepted
  | true, false => .notTaken

/-- The tenure after a frame's outcome: it goes on with the next frame CLE offers when the outcome was ACCEPTED or REFUSED
and fewer than four frames have been begun, and ends otherwise (R127). -/
def Ev.continueTenure (e : Ev) (o : FrameOutcome) : Ev :=
  let tenure := e.state.lbp.tenure
  if o ≠ .notTaken ∧ tenure < Config.maxTenure then
    let offered := e.offer
    match offered.2 with
    | some p => offered.1.map (fun s => s.take p (tenure + 1))
    | none => offered.1.map State.endTenure
  else e.map State.endTenure

/-- FRAME_SENT: the sender reads both slots, the outcome is handed to CLE, and the tenure goes on or ends (R126, R127,
R138 to R141, R150). After DAY_CLOSE the port turns OFF at the stop, with no outcome handed on (R133). -/
def execFrameSent (declineHigh conflictHigh : Bool) (s : State) : Result :=
  whenRunning s fun s =>
    if s.lbp.frame.isSending then
      if s.lbp.closing then s.portOff
      else
        let o := slotOutcome declineHigh conflictHigh
        ((((Ev.start s).map State.restartPresence).outcome o true).continueTenure o).finish
    else s

/-- FRAME_RECEIVED: the last byte of a frame being received is in. The judgement is made; an intact duplicate of this
station's number puts it in STATION_CONFLICT; a verdict that is `late` stretches LC (R123 to R125, R158, R166, R167). -/
def execFrameReceived (bytes : List Byte) (late : Bool) (s : State) : Result :=
  whenRunning s fun s =>
    if s.lbp.frame = .receiving then
      let j := s.judge bytes
      let met := ((Ev.start (j.counted s)).meetDuplicate bytes).finish
      let v := met.drives bytes j.verdict
      met.setFrame (if late then .stretching bytes v 0 else .judged bytes v false)
    else s

/-- A decline counted at the moment a stretching listener pulls LD low for it (R125, R132). -/
def State.countDecline (s : State) (v : Verdict) : State :=
  if v = .decline then s.count (fun c => { c with declinesDriven := saturate (c.declinesDriven + 1) }) else s

/-- STRETCH_LIMIT_EXPIRY: 2 ms after the fall of LC the verdict is still not ready; the station declines and releases LC.
A station that drives no slot for the frame only releases LC (R123, R125, R166, R167). -/
def execStretchLimitExpiry (s : State) : Result :=
  whenRunning s fun s =>
    match s.lbp.frame with
    | .stretching bytes _ ms =>
      let v := s.drives bytes .decline
      ((s.elapse (Config.stretchMs - ms)).countDecline v).setFrame (.judged bytes v (v == .decline))
    | _ => s

/-- VERDICT_READY: a stretching listener's judgement completes; it sets LD for its verdict and releases LC (R125). -/
def execVerdictReady (s : State) : Result :=
  whenRunning s fun s =>
    match s.lbp.frame with
    | .stretching bytes v _ => (s.countDecline v).setFrame (.judged bytes v (v == .decline))
    | _ => s

/-- The counters that a frame heard through its conflict slot raises: frames heard, and the slot this station drove, unless
its decline was counted at the end of a stretch (R124, R126, R132). -/
def State.countHeard (s : State) (v : Verdict) (counted : Bool) : State :=
  let heard := s.count (fun c => { c with framesHeard := saturate (c.framesHeard + 1) })
  match v with
  | .silence => heard
  | .decline => if counted then heard else heard.countDecline .decline
  | .conflict => heard.count (fun c => { c with conflictsDriven := saturate (c.conflictsDriven + 1) })

/-- FRAME_SLOTS_HEARD: a listener reads both slots. A slot it drove itself reads low whatever the others do. The roster is
updated, and the frame applied when both slots read high (R126, R157, R160). The frame in hand ends here (log entry 9). -/
def execFrameSlotsHeard (declineHigh conflictHigh : Bool) (s : State) : Result :=
  whenRunning s fun s =>
    match s.lbp.frame with
    | .judged bytes v counted =>
      let heard := (s.countHeard v counted).updateRoster bytes
      let bothHigh := declineHigh && conflictHigh && v == .silence
      (if bothHigh then heard.applyFrame bytes else heard).setFrame .none
    | _ => s

/-- TRUNCATED_FRAME: a frame being received ends before its conflict slot; it is discarded, and a stretch is released (R128). -/
def execTruncatedFrame (s : State) : Result :=
  whenRunning s fun s =>
    if s.lbp.frame.isSending then s else s.setFrame .none

/-- HANG_DETECTED: a line has stayed low for the hang time. The frame in hand is dropped, a frame being sent with the outcome
NOT_TAKEN; then a hung LC makes the bus FAULTED, and a hung LD alone HUNG, to be recovered (R129, R131). After DAY_CLOSE the port turns
OFF at the hang (R133). -/
def execHangDetected (lines : HungLines) (s : State) : Result :=
  whenRunning s fun s =>
    if s.busLive then
      let counted := s.count (fun c => { c with hangEvents := saturate (c.hangEvents + 1) })
      if s.lbp.closing then counted.portOff
      else
        let dropped := (Ev.start counted).map (fun s => (s.setBus (.hung 0) false).endTenure)
        let ended := if s.lbp.frame.isSending then dropped.outcome .notTaken false else dropped
        (match lines with
          | .ld => ended
          | .lc | .both => ended.enterFaulted).finish
    else s

/-- RECOVERY_PULSE: one pulse of LC in the recovery of a hung LD. LD high makes a stop and the bus IDLE; LD low after the
ninth pulse makes it FAULTED (R130). -/
def execRecoveryPulse (ldHigh : Bool) (s : State) : Result :=
  whenRunning s fun s =>
    match s.lbp.bus with
    | some (.hung pulses) =>
      if ldHigh then s.setBus .idle false
      else if Config.maxPulses ≤ pulses + 1 then ((Ev.start s).enterFaulted).finish
      else s.setBus (.hung (pulses + 1)) false
    | _ => s

/-- FAULTED_RECHECK: 1 s after the entry to FAULTED or the last recheck, the lines are watched for the idle interval. Both
high throughout make the bus IDLE, with its notice and a re-announcement (R131, R149). -/
def execFaultedRecheck (linesHigh : Bool) (s : State) : Result :=
  whenRunning s fun s =>
    match s.lbp.bus with
    | some (.faulted ms) =>
      let now := s.elapse (Config.recheckMs - ms)
      if linesHigh then ((now.setBus .idle true).notify (.laneState false s.lbp.laneLost)).owesHoldings
      else now.setBus (.faulted 0) false
    | _ => s

/-- START_SEEN: at a station that is not sending, a start, or a line going low while the bus is IDLE. The bus is BUSY; a start begins a
frame in hand in the receiving role and truncates one before it (R119, R123, R128). -/
def execStartSeen (isStart : Bool) (s : State) : Result :=
  whenRunning s fun s =>
    if s.busLive && !s.lbp.frame.isSending then
      if isStart then (s.setBus .busy false).setFrame .receiving
      else if s.lbp.bus = some .idle then s.setBus .busy false
      else s
    else s

/-- RECOVERY_LC_HELD_LOW: during recovery LC stays low for the hang time after the station released it; the bus becomes
FAULTED (R130, R131). -/
def execRecoveryLcHeldLow (s : State) : Result :=
  whenRunning s fun s =>
    match s.lbp.bus with
    | some (.hung _) => ((Ev.start s).enterFaulted).finish
    | _ => s

end Sys2Proof.Machine
end

