-- ==== Sys2Proof/Machine/Flags.lean ====
section
/-!
DEFINITION. The flags the till reads without a request: the link status byte, its notice code, and the attention output (R182, R186,
R190); and the two lane bus outputs between events (R116, R125, R178).
-/

namespace Sys2Proof.Machine

/-- The ready flag: the outstanding-request count is below 8 (R182). -/
def State.ready (s : State) : Bool := decide (s.tlp.tags.length < Config.maxOutstanding)

/-- The notice code of the link status byte (R190). -/
def noticeCode (waiting : Nat) (lost restarted : Bool) : Nat :=
  if restarted then 7
  else if lost then (if waiting ≤ 3 then 5 else 6)
  else waiting

/-- The link status byte: the ready flag in bit 7, the responses waiting in bits 6..3, the notice code in bits 2..0 (R190). -/
def State.statusByte (s : State) : Byte :=
  BitVec.ofNat 8 ((if s.ready then 128 else 0) + 8 * s.tlp.responses.length +
    noticeCode s.tlp.notices.length s.tlp.noticesLost s.tlp.restarted)

/-- TATN is pulled low while a response or notice waits, and released while the part is held in reset (R186, R178). -/
def State.attention (s : State) : Bool :=
  !s.inReset && (!s.tlp.responses.isEmpty || !s.tlp.notices.isEmpty)

/-- The station holds LC low between two events: while it stretches, and never in reset (R125, R178). Its pulling within the sending of
a frame, a recovery or a slot is inside one event. -/
def State.pullsLC (s : State) : Bool :=
  !s.inReset && (match s.lbp.frame with
    | .stretching _ _ _ => true
    | _ => false)

/-- The station holds LD low between two events: from the end of a stretch whose verdict is decline, at which it pulls LD before it
releases LC, to the slots of that frame, and never in reset (R125, R178). Its pulling within the sending of a frame or a slot is
inside one event. -/
def State.pullsLD (s : State) : Bool :=
  !s.inReset && (match s.lbp.frame with
    | .judged _ .decline true => true
    | _ => false)

end Sys2Proof.Machine
end

