-- ==== Sys2Proof/Machine/Operands.lean ====
section
/-!
DEFINITION. The operands of the requests: which records are well formed (R185, step 1; R189, R190), the typed values that their
enumerated bytes stand for, and the range checks of the fields (R27, R29 to R31, R88, R171).
-/

namespace Sys2Proof.Machine

/-! ## Enumerated bytes (R189) -/

/-- A lane class byte (R171). -/
def laneClassOfByte (b : Byte) : LaneClass :=
  match b.toNat with
  | 0 => .till
  | 1 => .tradeCounter
  | 2 => .selfCheckout
  | _ => .garden

/-- A bit rate byte (R171). -/
def bitRateOfByte (b : Byte) : BitRate :=
  match b.toNat with
  | 0 => .kbit62
  | 1 => .kbit125
  | _ => .kbit250

/-- A restart policy byte: RESTART 0, FOLLOW 1 (R171). -/
def restartPolicyOfByte (b : Byte) : RestartPolicy := if b = 0 then .restart else .follow

/-- A degrade policy byte: ALLOW 0, DENY 1 (R171). -/
def degradeOfByte (b : Byte) : Degrade := if b = 0 then .allow else .deny

/-- A measure kind byte (R19). -/
def measureOfByte (b : Byte) : Measure :=
  match b.toNat with
  | 0 => .each
  | 1 => .millimetre
  | _ => .gram

/-- A guard measure byte (R31). -/
def guardMeasureOfByte (b : Byte) : GuardMeasure :=
  match b.toNat with
  | 0 => .basketGross
  | 1 => .liveLines
  | 2 => .groupSpend
  | 3 => .groupUnits
  | 4 => .memberTier
  | _ => .laneClass

/-- A relation byte (R32). -/
def relationOfByte (b : Byte) : Relation :=
  match b.toNat with
  | 0 => .equal
  | 1 => .unequal
  | 2 => .above
  | 3 => .atLeast
  | 4 => .below
  | _ => .atMost

/-- The slot byte that names no slot (R189). -/
def noSlot : Byte := 0xFF

/-- A slot number byte; the request has been found well formed (R4). -/
def slotOfByte (b : Byte) : Fin 4 :=
  match b.toNat with
  | 0 => 0
  | 1 => 1
  | 2 => 2
  | _ => 3

/-! ## Lengths of request records (R190) -/

/-- The bytes of a guard term: measure, relation, constant. -/
def termBytes : Nat := 6

/-- The bytes the kind parameters of a promotion entry take (R30, R189). -/
def paramsBytes (p : PromoParams) : Nat :=
  match p with
  | .quantityBreak _ _ _ => 8
  | .multibuy _ _ => 5
  | .allotmentPrice _ _ => 5
  | .percentOff _ _ => 6
  | .amountOff _ _ => 8
  | .coupon _ _ _ _ => 10
  | .pointsMultiplier _ => 1

/-- The bytes LOAD_PROMO's entry takes after its number: kind, and for a promotion its group, mask, terms, limit,
skip flag and parameters (R29, R37, R189). -/
def promoBytes (f : PromoFields) : Nat :=
  match f with
  | .entry c p => 1 + 1 + 1 + (1 + termBytes * c.terms.length) + 1 + 1 + paramsBytes p
  | .empty => 1
  | .undefinedKind _ => 1

/-- A record's header is that of its type: the length field is 4 bytes of header and the fields, and the tag is 0..15
(R189, R190). -/
def headerOk (h : Hdr) (fields : Nat) : Bool :=
  h.length.toNat == 4 + fields && decide (h.tag.toNat ≤ 15)

/-- An enumerated byte of `n` values holds a defined one. -/
def defined (b : Byte) (n : Nat) : Bool := decide (b.toNat < n)

/-- A promotion entry's enumerated fields and its count of terms (R30, R31). -/
def promoDefined (f : PromoFields) : Bool :=
  match f with
  | .undefinedKind _ => false
  | .empty => true
  | .entry c p =>
    decide (c.terms.length ≤ 2) &&
    c.terms.all (fun t => defined t.measure 6 && defined t.relation 6) &&
    (match p with
      | .quantityBreak m _ _ => defined m 3
      | .coupon _ v _ _ => defined v 2
      | _ => true)

/-- Step 1 of R185 for each request: the length right for the type, a tag of 0..15, every enumerated field defined, a slot
number of 0..3, at most four groups and two guard terms, no line number with a basket override. An event of the bus or of a
timer is no record, and always well formed. -/
def wellFormedRecord (c : Instr) : Bool :=
  match c with
  | .configure h f => headerOk h 9 && defined f.laneClass 4 && defined f.bitRate 3 &&
      defined f.restartPolicy 2 && defined f.allotPolicy 2 && defined f.serialPolicy 2 && defined f.pointsPolicy 2
  | .restart h _ _ => headerOk h 1
  | .status h _ => headerOk h 1
  | .loadBegin h f => headerOk h 95 && f.rates.length == 4 && f.quantities.length == 32
  | .loadPromo h _ f => headerOk h (1 + promoBytes f) && promoDefined f
  | .loadStaff h _ _ _ => headerOk h 7
  | .loadEnd h => headerOk h 0
  | .dayOpen h _ => headerOk h 2
  | .dayClose h => headerOk h 0
  | .setWindow h _ _ => headerOk h 2
  | .setTimeBand h _ => headerOk h 1
  | .signOn h _ => headerOk h 2
  | .signOff h => headerOk h 0
  | .authorise h _ => headerOk h 2
  | .dropAuthority h => headerOk h 0
  | .openBasket h => headerOk h 0
  | .park h => headerOk h 0
  | .recall h slot => headerOk h 1 && defined slot 4
  | .addLine h _ m _ _ _ groups => headerOk h (14 + groups.length) && defined m 3 && decide (groups.length ≤ 4)
  | .changeQty h _ _ => headerOk h 4
  | .voidLine h _ => headerOk h 1
  | .presentCoupon h _ _ => headerOk h 7
  | .withdrawCoupon h _ _ => headerOk h 7
  | .setMember h _ _ _ => headerOk h 9
  | .clearMember h => headerOk h 0
  | .redeemPoints h _ => headerOk h 3
  | .override h kind form line _ => headerOk h 7 && defined kind 4 &&
      (kind.toNat != 1 || defined form 2) && (decide (kind.toNat < 2) || line == 0)
  | .cancelOverride h => headerOk h 0
  | .total h => headerOk h 0
  | .finalise h => headerOk h 0
  | .reopen h => headerOk h 0
  | .close h => headerOk h 0
  | .voidBasket h slot => headerOk h 1 && (slot == noSlot || defined slot 4)
  | .readLine h _ => headerOk h 1
  | .readAdjustments h => headerOk h 0
  | .readRoster h => headerOk h 0
  | .readAllotment h _ => headerOk h 1
  | .purgeStation h _ => headerOk h 1
  | .powerOn _ | .resetAsserted | .poll | .readResponse _ | .readNotice _ _ | .writeDiscarded _
  | .elevationExpiry | .finaliseF2 | .finaliseF3 | .finaliseF4 | .stageA | .entryVisit | .stageE | .stageFPoints | .stageG
  | .busIdle | .frameBegin | .arbitrationLoss | .collisionAbort | .frameSent _ _ | .frameReceived _ _
  | .stretchLimitExpiry | .verdictReady | .frameSlotsHeard _ _ | .truncatedFrame | .hangDetected _ | .recoveryPulse _
  | .faultedRecheck _ | .claimAgeExpiry _ | .presenceDue | .rosterSilent _ | .joinWindowExpiry | .startSeen _
  | .recoveryLcHeldLow => true

/-! ## The configuration record (R171) -/

/-- The position, in the table of R171, of the first field of a configuration record outside its range. -/
def configFault (f : ConfigFields) : Option Nat :=
  if 32 < f.station.toNat then some 1
  else if f.timeout ≠ 0 ∧ (f.timeout.toNat < 30 ∨ 600 < f.timeout.toNat) then some 8
  else none

/-- The configuration record that a well-formed one in range stores, a timeout of 0 stored as 120 s (R171). -/
def configOf (f : ConfigFields) : Configuration :=
  { station := f.station.toNat, laneClass := laneClassOfByte f.laneClass, bitRate := bitRateOfByte f.bitRate,
    restartPolicy := restartPolicyOfByte f.restartPolicy, allotPolicy := degradeOfByte f.allotPolicy,
    serialPolicy := degradeOfByte f.serialPolicy, pointsPolicy := degradeOfByte f.pointsPolicy,
    timeout := if f.timeout = 0 then Config.defaultElevationSeconds else f.timeout.toNat }

/-! ## The table header (R27) -/

/-- The position, in the table of R27, of the first field of a header outside its range. -/
def headerFault (f : HeaderFields) : Option Nat :=
  if f.tableTag = 0 then some 1
  else if f.cap.toNat < 1 ∨ 999999 < f.cap.toNat then some 2
  else if f.blockSize.toNat < 1 ∨ 10000 < f.blockSize.toNat then some 3
  else if f.blockValue.toNat < 1 ∨ 10000 < f.blockValue.toNat then some 4
  else if f.rates.any (fun r => decide (20 < r.toNat)) then some 5
  else if f.band1.toNat < 1 ∨ 10000 < f.band1.toNat then some 7
  else if f.band2.toNat < f.band1.toNat ∨ 10000 < f.band2.toNat then some 8
  else if 3 < f.g1.toNat ∨ 3 < f.g2.toNat ∨ 3 < f.g3.toNat then some 9
  else if 3 < f.gIncrease.toNat ∨ 3 < f.gZero.toNat ∨ 3 < f.gBasket.toNat ∨ 3 < f.gPoints.toNat then some 10
  else if Config.maxAmount < f.threshold.toNat then some 11
  else none

/-- The header that a load stores (R27, R36). -/
def headerOf (f : HeaderFields) : Header :=
  { tableTag := f.tableTag, cap := f.cap.toNat, blockSize := f.blockSize.toNat, blockValue := f.blockValue.toNat,
    rates := f.rates.map (·.toNat), quantities := f.quantities.map (·.toNat),
    band1 := f.band1.toNat, band2 := f.band2.toNat, g1 := f.g1.toNat, g2 := f.g2.toNat, g3 := f.g3.toNat,
    gIncrease := f.gIncrease.toNat, gZero := f.gZero.toNat, gBasket := f.gBasket.toNat, gPoints := f.gPoints.toNat,
    threshold := f.threshold.toNat }

/-! ## Promotion entries (R29 to R31) -/

/-- A number outside `lo..hi`. -/
def outside (n lo hi : Nat) : Bool := decide (n < lo) || decide (hi < n)

/-- The per-basket limit lies outside what its kind allows (R30). -/
def limitFault (p : PromoParams) (limit : Nat) : Bool :=
  match p with
  | .multibuy _ _ | .coupon _ _ _ _ => false
  | .allotmentPrice _ _ => outside limit 1 99
  | .quantityBreak _ _ _ | .percentOff _ _ | .amountOff _ _ | .pointsMultiplier _ => limit != 0

/-- The skip-discounted flag is valid on AMOUNT_OFF and COUPON alone (R29, R30). -/
def allowsSkip (p : PromoParams) : Bool :=
  match p with
  | .amountOff _ _ | .coupon _ _ _ _ => true
  | _ => false

/-- A kind parameter lies outside its range (R30). -/
def paramsFault (p : PromoParams) : Bool :=
  match p with
  | .quantityBreak _ threshold t => outside threshold.toNat 1 999999 || decide (Config.maxUnitPrice < t.toNat)
  | .multibuy k price => outside k.toNat 2 20 || decide (Config.maxAmount < price.toNat)
  | .allotmentPrice a s => decide (31 < a.toNat) || decide (Config.maxUnitPrice < s.toNat)
  | .percentOff rate t => outside rate.toNat 1 10000 || decide (Config.maxAmount < t.toNat)
  | .amountOff t a => decide (Config.maxAmount < t.toNat) || outside a.toNat 1 Config.maxAmount
  | .coupon c v value t =>
    outside c.toNat 1 255 ||
    (if v = 0 then outside value.toNat 1 Config.maxAmount else outside (value.toNat % 65536) 1 10000) ||
    decide (Config.maxAmount < t.toNat)
  | .pointsMultiplier f => outside f.toNat 2 10

/-- The position of the first field of an entry outside its range (R37). R37 owns LOAD_PROMO and has no table to count in, and does
not say which of several faulty fields is named: here the rows of R29's table are counted, every parameter of R30 is the one
position 8, and the first faulty row is named (log entry 13). -/
def promoFault (c : PromoCommon) (p : PromoParams) : Option Nat :=
  if 63 < c.group.toNat then some 3
  else if c.terms.any (fun t => decide (Config.maxAmount < t.constant.toNat)) then some 5
  else if limitFault p c.limit.toNat then some 6
  else if c.skip && !allowsSkip p then some 7
  else if paramsFault p then some 8
  else none

/-- The kind an entry stores (R30). A PERCENT value stands in the low two bytes of its field (R189). -/
def promoKindOf (p : PromoParams) : PromoKind :=
  match p with
  | .quantityBreak m threshold t => .quantityBreak (measureOfByte m) threshold.toNat t.toNat
  | .multibuy k price => .multibuy k.toNat price.toNat
  | .allotmentPrice a s => .allotmentPrice a.toNat s.toNat
  | .percentOff rate t => .percentOff rate.toNat t.toNat
  | .amountOff t a => .amountOff t.toNat a.toNat
  | .coupon c v value t =>
    .coupon c.toNat (if v = 0 then .amount value.toNat else .percent (value.toNat % 65536)) t.toNat
  | .pointsMultiplier f => .pointsMultiplier f.toNat

/-- The entry that a LOAD_PROMO stores (R29, R37). -/
def promoOf (c : PromoCommon) (p : PromoParams) : PromoEntry :=
  { kind := promoKindOf p, group := c.group.toNat, mask := c.mask,
    terms := c.terms.map (fun t => ⟨guardMeasureOfByte t.measure, relationOfByte t.relation, t.constant.toNat⟩),
    limit := c.limit.toNat, skip := c.skip }

/-! ## Lines and overrides -/

/-- The quantity lies in the range of its measure kind (R19). -/
def qtyInRange (m : Measure) (q : Nat) : Bool :=
  match m with
  | .each => !outside q 1 9999
  | .millimetre | .gram => !outside q 1 999999

/-- No two group numbers are equal, and each is 1..63 (R19, R20). -/
def groupsInRange : List Nat → Bool
  | [] => true
  | g :: t => !outside g 1 63 && !t.contains g && groupsInRange t

/-- The override that a well-formed OVERRIDE asks for; a RATE stands in the low two bytes of the value (R88, R189, R190). The points of a
POINTS_AWARD are read from all four bytes, so that a non-zero top byte is out of range (log entry 14). -/
def overrideOf (kind form line : Byte) (value : Quad) : OverrideRequest :=
  match kind.toNat with
  | 0 => .line line.toNat (.price value.toNat)
  | 1 => .line line.toNat
      (if form = 0 then .discountAmount value.toNat else .discountRate (value.toNat % 65536))
  | 2 => .basketDiscount value.toNat
  | _ => .pointsAward value.toNat

/-- The value lies in the range R88 gives its kind. -/
def overrideInRange (r : OverrideRequest) : Bool :=
  match r with
  | .line _ (.price p) => decide (p ≤ Config.maxUnitPrice)
  | .line _ (.discountAmount d) => !outside d 1 Config.maxAmount
  | .line _ (.discountRate p) => !outside p 1 10000
  | .basketDiscount a => !outside a 1 Config.maxAmount
  | .pointsAward p => !outside p 1 99999

/-- The line a line number names: 1 is the first record (R19). A number of 0 or above the list names none. -/
def lineAt (ls : List Line) (number : Nat) : Option Line :=
  if number = 0 then none else ls[number - 1]?

end Sys2Proof.Machine
end

