-- ==== Sys2Proof/Machine/Requests.lean ====
section
/-!
DEFINITION. What every request record passes through: the transfer that writes it, its taking or discarding, the checks common to all
requests in the order of R185, and the posting of its response (R181 to R185); and the checks of the active basket that many
requests share (R4, R20).
-/

namespace Sys2Proof.Machine

/-! ## Transfers -/

/-- A transfer that shifts out `out` after its status byte; at its end the restarted flag is clear (R181, R182). -/
def State.transfer (s : State) (out : List Byte) : State :=
  { s with tlp := { s.tlp with tsdo := s.statusByte :: out, restarted := false, lossUnseen := false } }

/-- A request becomes outstanding with its tag (R183). A tag above 15, which is refused with BAD_REQUEST, is kept whole among the
outstanding tags and in its response (R189, log entry 39). -/
def State.outstanding (s : State) (tag : Byte) : State :=
  { s with tlp := { s.tlp with tags := s.tlp.tags ++ [tag] } }

/-! ## Answers -/

/-- What a request's own rule does with it: a refusal that changes nothing, a response posted in the event that takes it, or a
response deferred (R184, R185). -/
inductive Answer where
  | refused (r : Reply)
  | answered (s : State) (r : Reply)
  | deferred (s : State)
deriving DecidableEq, Repr

/-- The state after an answer to the request of that tag, taken in state `s`. -/
def Answer.settle (a : Answer) (tag : Byte) (s : State) : State :=
  match a with
  | .refused r => s.respond tag r
  | .answered s' r => s'.respond tag r
  | .deferred s' => s'

/-! ## The checks common to all requests -/

/-- What the checks of a request ask of the station before its own rule: the day states that take it, and whether it needs an operator
(R170, R185). -/
structure Needs where
  days     : DayState → Bool
  operator : Bool

/-- The first three checks of R185; `none` when all pass. -/
def commonRefusal (h : Hdr) (c : Instr) (needs : Needs) (s : State) : Option Reply :=
  if s.tlp.tags.contains h.tag then some (refusalNamed .badRequest .tagInUse)
  else if !wellFormedRecord c then some (refusal .badRequest)
  else if !needs.days s.stc.day then some (refusal .notReady)
  else if needs.operator && s.atc.operator.isNone then some (refusal .noOperator)
  else none

/-- A written record is discarded unanswered: the ready flag was clear in this transfer's status byte, or the record's
length field is below its header's (R183). -/
def discarded (h : Hdr) (s : State) : Bool := !s.ready || decide (h.length.toNat < 4)

/-- A WRITE transfer that carries request `c`: it is discarded, or taken, checked in the order of R185, and handed to its owner
(R181 to R185). Its event falls at the end of the transfer, so that an overflow in it meets no read under way (R187). -/
def takeRequest (h : Hdr) (c : Instr) (needs : Needs) (owner : State → Answer) (s : State) : Result :=
  whenRunning s fun s =>
    let written := s.transfer []
    if discarded h s then written
    else
      let taken := written.outstanding h.tag
      match commonRefusal h c needs s with
      | some r => taken.respond h.tag r
      | none => ((owner taken).settle h.tag taken).sawLoss

/-! ## Day states that take a request (R170) -/

/-- Taken in every day state, with no operator. -/
def always : Needs := ⟨fun _ => true, false⟩

/-- Taken in every day state, with an operator. -/
def withOperator : Needs := ⟨fun _ => true, true⟩

/-- Taken in UNCONFIGURED and CONFIGURED. -/
def beforeLoad : Needs := ⟨fun d => d == .unconfigured || d == .configured, false⟩

/-- Taken in CONFIGURED and READY. -/
def whileLoading : Needs := ⟨fun d => d == .configured || d == .ready, false⟩

/-- Taken in READY. -/
def whenReady : Needs := ⟨fun d => d == .ready, false⟩

/-- Taken in TRADING, with no operator. -/
def whileOpen : Needs := ⟨fun d => d == .trading, false⟩

/-- Taken in READY and TRADING. -/
def readyOrTrading : Needs := ⟨fun d => d == .ready || d == .trading, false⟩

/-- Taken in READY, JOINING and TRADING. -/
def fromReady : Needs := ⟨fun d => d == .ready || d == .joining || d == .trading, false⟩

/-- Taken in every day state but UNCONFIGURED. -/
def onceConfigured : Needs := ⟨fun d => d != .unconfigured, false⟩

/-- Taken in JOINING and TRADING, with an operator. -/
def onTheBus : Needs := ⟨fun d => d == .joining || d == .trading, true⟩

/-- Taken in TRADING, with an operator: the basket requests. -/
def trading : Needs := ⟨fun d => d == .trading, true⟩

/-! ## Checks of the active basket -/

/-- The request's rule on the active basket; NO_BASKET with none (R4). -/
def onActive (k : Fin 4 → Basket → Answer) (s : State) : Answer :=
  match s.bst.active with
  | none => .refused (refusal .noBasket)
  | some i => match s.bst.get i with
    | none => .refused (refusal .noBasket)
    | some b => k i b

/-- The request's rule on an active basket that takes changes: HELD from HELD, BASKET_STATE from FINALISING or SETTLED (R20). -/
def onOpen (k : Fin 4 → Basket → Answer) (s : State) : Answer :=
  onActive (fun i b => match b.state with
    | .trading => k i b
    | .held => .refused (refusal .held)
    | _ => .refused (refusal .basketState)) s

/-- The request's rule on an active basket in the state `st`; BASKET_STATE from any other (R6, R8, R15, R16, R96). -/
def onState (st : BasketState) (k : Fin 4 → Basket → Answer) (s : State) : Answer :=
  onActive (fun i b => if b.state = st then k i b else .refused (refusal .basketState)) s

/-- The active basket of slot `i` changed by one request, its revision raised once (R24), which is a trigger (R46). -/
def State.changeBasket (s : State) (i : Fin 4) (f : Basket → Basket) : State :=
  (s.updateBasket i f).raiseRevision i

end Sys2Proof.Machine
end

