-- ==== Sys2Proof/Machine/Authority.lean ====
section
/-!
DEFINITION. The authority controller at work: the acting person, gates and reductions, applying an override, and the pop of an
elevation frame with its withdrawals (Overrides and Authority).
-/

namespace Sys2Proof.Machine

/-! ## The acting person -/

/-- A staff member as the acting person: number, level and override limit (R85). -/
structure Acting where
  staff : Nat
  level : Nat
  limit : Nat
deriving DecidableEq, Repr

/-- The acting person: the staff member of the top frame, or the operator when the stack is empty (R85). -/
def Atc.acting (a : Atc) : Option Acting :=
  match a.stack with
  | f :: _ => some ⟨f.staff, f.level, f.limit⟩
  | [] => a.operator.map (fun r => ⟨r.staff, r.level, r.limit⟩)

/-- The elevation timeout in force, in ms; with no configuration record the 120 s that a timeout of 0 stands for (R100, R171). -/
def State.timeoutMs (s : State) : Nat :=
  1000 * (match s.stc.config with
    | some c => c.timeout
    | none => Config.defaultElevationSeconds)

/-- The elevation timer as it is at a restart: the full timeout while the stack holds a frame, stopped otherwise (R100). -/
def State.restartTimer (s : State) : State :=
  { s with atc := { s.atc with timer := if s.atc.stack.isEmpty then none else some s.timeoutMs } }

/-! ## Reduction and gate -/

/-- The reduction amount of an override on a basket of these lines (R90). -/
def reductionOf (ls : List Line) (r : OverrideRequest) : Nat :=
  match r with
  | .basketDiscount a => a
  | .pointsAward _ => 0
  | .line n v => match lineAt ls n with
    | none => 0
    | some l => match v with
      | .price p => if p < l.price then l.catalogue - extendedAmount l.measure p l.qty else 0
      | .discountAmount d => d
      | .discountRate p => halfUp (l.catalogue * p) 10000

/-- The gate of a line override by the band of its reduction rate, compared exactly (R91). -/
def bandGate (h : Header) (r e : Nat) : Nat :=
  if r * 10000 ≤ h.band1 * e then h.g1
  else if r * 10000 ≤ h.band2 * e then h.g2
  else h.g3

/-- The gate of an override of reduction `red` on a basket of these lines (R91). -/
def gateOf (h : Header) (ls : List Line) (r : OverrideRequest) (red : Nat) : Nat :=
  match r with
  | .basketDiscount _ => h.gBasket
  | .pointsAward _ => h.gPoints
  | .line n v => match lineAt ls n with
    | none => h.g3
    | some l => match v with
      | .price p =>
        if p = 0 then h.gZero else if l.price < p then h.gIncrease else bandGate h red l.catalogue
      | _ => bandGate h red l.catalogue

/-- The gate as the station's table gives it; with no table held, which no trading station is, gate 0 (R27). -/
def State.gateFor (s : State) (ls : List Line) (r : OverrideRequest) (red : Nat) : Nat :=
  match s.ptb.header with
  | some h => gateOf h ls r red
  | none => 0

/-- An override is satisfiable: the LAL is at or above its gate and the acting limit is at least its reduction (R92). -/
def State.satisfiable (s : State) (gate reduction : Nat) : Bool :=
  match s.atc.lal, s.atc.acting with
  | some l, some p => decide (l ≤ gate) && decide (reduction ≤ p.limit)
  | _, _ => false

/-- The presence threshold amount of the override policy (R27). -/
def State.presenceThreshold (s : State) : Nat :=
  match s.ptb.header with
  | some h => h.threshold
  | none => 0

/-- An override is presence-bound: a BASKET_DISCOUNT above the threshold, or a PRICE of 0 (R92). -/
def State.presenceBound (s : State) (r : OverrideRequest) : Bool :=
  match r with
  | .basketDiscount a => decide (s.presenceThreshold < a)
  | .line _ (.price p) => p == 0
  | _ => false

/-- The approval stamp of an override applied now (R92). -/
def State.stampFor (s : State) (r : OverrideRequest) : Stamp :=
  match s.atc.acting with
  | some p => ⟨p.staff, p.level, s.atc.stack.length, s.presenceBound r⟩
  | none => ⟨0, 0, s.atc.stack.length, s.presenceBound r⟩

/-! ## Applying an override -/

/-- The override placed in a basket, replacing one of the same target and kind (R88). -/
def placeOverride (r : OverrideRequest) (reduction : Nat) (st : Stamp) (b : Basket) : Basket :=
  match r with
  | .line n v => { b with lines := modifyAt (n - 1) (fun l => { l with override := some ⟨v, reduction, st⟩ }) b.lines }
  | .basketDiscount a => { b with discount := some ⟨a, reduction, st⟩ }
  | .pointsAward p => { b with award := some ⟨p, reduction, st⟩ }

/-- The number of an override kind, PRICE 0 to POINTS_AWARD 3 (R189). -/
def OverrideRequest.kind (r : OverrideRequest) : Nat :=
  match r with
  | .line _ (.price _) => 0
  | .line _ _ => 1
  | .basketDiscount _ => 2
  | .pointsAward _ => 3

/-- The line an override names, if its kind names one. -/
def OverrideRequest.line? (r : OverrideRequest) : Option Nat :=
  match r with
  | .line n _ => some n
  | _ => none

/-- The body of the APPLIED response to an override applied now to a basket of revision `rev` (R92). -/
def State.appliedReport (s : State) (r : OverrideRequest) (reduction gate : Nat) (rev : Half) : AppliedReport :=
  { kind := r.kind, line := r.line?, reduction := reduction, gate := gate, stamp := s.stampFor r, revision := rev + 1 }

/-- An override applied to the basket of slot `i`: placed and stamped, the elevation timer restarted, the revision raised once
(R92, R100). -/
def State.applyOverride (s : State) (i : Fin 4) (r : OverrideRequest) (reduction : Nat) : State :=
  let timed := if s.atc.stack.isEmpty then s else s.restartTimer
  timed.changeBasket i (placeOverride r reduction (s.stampFor r))

/-! ## Withdrawal -/

/-- An applied override is withdrawn at a pop of depth `d`: presence-bound and stamped with that depth (R98). -/
def Stamp.leavesAt (st : Stamp) (d : Nat) : Bool := st.bound && st.depth == d

/-- An optional override after a pop of depth `d`. -/
def keepAt {α : Type} (d : Nat) (o : Option (Applied α)) : Option (Applied α) :=
  o.filter (fun a => !a.stamp.leavesAt d)

/-- One, when a pop of depth `d` withdraws the override. -/
def leaves {α : Type} (d : Nat) (o : Option (Applied α)) : Nat :=
  match o with
  | some a => if a.stamp.leavesAt d then 1 else 0
  | none => 0

/-- The states of a basket that a withdrawal reaches (R98). -/
def BasketState.withdrawable (st : BasketState) : Bool :=
  match st with
  | .settled => false
  | _ => true

/-- How many overrides of a basket a pop of depth `d` withdraws (R98). -/
def Basket.withdrawals (b : Basket) (d : Nat) : Nat :=
  if b.state.withdrawable then
    (b.lines.map (fun l => leaves d l.override)).sum + leaves d b.discount + leaves d b.award
  else 0

/-- A basket with the overrides of depth `d` withdrawn and its withdrawal marker set (R98). -/
def Basket.withdraw (b : Basket) (d : Nat) : Basket :=
  { b with
    lines := b.lines.map (fun l => { l with override := keepAt d l.override }),
    discount := keepAt d b.discount,
    award := keepAt d b.award,
    withdrawn := true }

/-- How many overrides of the basket in slot `i` a pop of depth `d` withdraws. -/
def State.withdrawalsIn (s : State) (d : Nat) (i : Fin 4) : Nat :=
  match s.bst.get i with
  | some b => b.withdrawals d
  | none => 0

/-- The withdrawal of depth `d`, approved by `staff`: overrides removed, baskets marked, a notice posted when at least one was
withdrawn (R87, R98). The order of the slot numbers in the notice is not given; they rise here (log entry 43). -/
def Ev.withdrawDepth (e : Ev) (d staff : Nat) : Ev :=
  let concerned := slotNumbers.filter (fun i => e.state.withdrawalsIn d i != 0)
  let count := (slotNumbers.map (e.state.withdrawalsIn d)).sum
  if count = 0 then e
  else (concerned.foldl (fun e i => e.write i (fun b => b.withdraw d)) e).map
    (fun s => s.notify (.overrideWithdrawn d staff count concerned))

/-- How many overrides a pop of depth `d` withdraws in all. -/
def State.withdrawalCount (s : State) (d : Nat) : Nat := (slotNumbers.map (s.withdrawalsIn d)).sum

/-- The top frame leaves the stack; the LAL returns to the level saved in it, and the timer restarts for the frame now on
top or stops (R97, R100). -/
def State.popFrame (s : State) : State :=
  match s.atc.stack with
  | [] => s
  | f :: rest => { s with atc := { s.atc with stack := rest, lal := some f.savedLal } }.restartTimer

/-- A pop of the top frame with its withdrawals (R97, R98). -/
def Ev.pop (e : Ev) : Ev :=
  match e.state.atc.stack with
  | [] => e
  | f :: rest => (e.map State.popFrame).withdrawDepth (rest.length + 1) f.staff

/-- Every frame popped, top first; `fuel` is the depth of the stack (R87). -/
def Ev.popAll : Nat → Ev → Ev
  | 0, e => e
  | fuel + 1, e => Ev.popAll fuel e.pop

end Sys2Proof.Machine
end

