-- ==== Sys2Proof/Machine/Staff.lean ====
section
/-!
DEFINITION. The staff requests, the override requests and the elevation timer's expiry (Overrides and Authority).
-/

namespace Sys2Proof.Machine

/-! ## The operator -/

/-- SIGN_ON (R86). -/
def execSignOn (h : Hdr) (staff : Half) (s : State) : Result :=
  takeRequest h (.signOn h staff) fromReady (fun s =>
    if s.atc.operator.isSome then .refused (refusalNamed .authority .signedOn)
    else match s.findStaff staff.toNat with
      | none => .refused (refusalNamed .authority .unknownStaff)
      | some r =>
        .answered { s with atc := { s.atc with operator := some r, lal := some r.level } }
          (okReply (.signedOn r.staff r.level))) s

/-- The number of overrides a SIGN_OFF withdraws: those of every depth of the stack, and those of depth 0 (R87). -/
def State.signOffWithdrawals (s : State) : Nat :=
  ((List.range (s.atc.stack.length + 1)).map s.withdrawalCount).sum

/-- The event of a SIGN_OFF by operator `r`: every frame popped, then the withdrawal of depth 0 (R87). -/
def State.signOffEvent (s : State) (r : StaffRecord) : State :=
  ((Ev.popAll s.atc.stack.length (Ev.start s)).withdrawDepth 0 r.staff).finish

/-- SIGN_OFF (R87). -/
def execSignOff (h : Hdr) (s : State) : Result :=
  takeRequest h (.signOff h) withOperator (fun s =>
    match s.atc.operator with
    | none => .refused (refusal .noOperator)
    | some r =>
      if s.bst.active.isSome then .refused (refusal .basketState)
      else
        let left := s.signOffEvent r
        .answered { left with atc := { left.atc with operator := none, lal := none, timer := none } }
          (okReply (.signedOff s.atc.stack.length s.signOffWithdrawals))) s

/-! ## Elevation -/

/-- A frame pushed for a staff record: the LAL saved in it, then lowered to the record's level, the timer restarted (R94). -/
def State.pushFrame (s : State) (r : StaffRecord) : State :=
  { s with atc := { s.atc with
      stack := ⟨r.staff, r.level, r.limit, s.atc.lal.getD r.level⟩ :: s.atc.stack, lal := some r.level } }.restartTimer

/-- A basket back from HELD to TRADING (R95, R96). -/
def resumeTrading (b : Basket) : Basket := { b with state := .trading }

/-- The held override tested again after a push, and applied or left held (R95). -/
def retestHeld (s : State) (o : HeldOverride) (b : Basket) : Answer :=
  let depth := s.atc.stack.length
  let lal := s.atc.lal.getD 0
  if s.satisfiable o.gate o.reduction then
    let freed := { s with atc := { s.atc with held := none } }.updateBasket o.slot resumeTrading
    .answered (freed.applyOverride o.slot o.request o.reduction)
      (okNamed .heldApplied (.heldApplied depth lal (s.appliedReport o.request o.reduction o.gate b.revision)))
  else .answered s (okNamed .stillHeld (.stillHeld depth lal o.gate o.reduction))

/-- What a taken AUTHORISE answers, once its frame is pushed (R94, R95). -/
def afterPush (s : State) : Answer :=
  let elevated := Answer.answered s (okNamed .elevated (.elevated s.atc.stack.length (s.atc.lal.getD 0)))
  match s.atc.held with
  | none => elevated
  | some o => match s.bst.get o.slot with
    | some b => retestHeld s o b
    | none => elevated

/-- AUTHORISE (R94, R95). -/
def execAuthorise (h : Hdr) (staff : Half) (s : State) : Result :=
  takeRequest h (.authorise h staff) withOperator (fun s =>
    match s.findStaff staff.toNat with
    | none => .refused (refusalNamed .authority .unknownStaff)
    | some r =>
      if Config.maxElevation ≤ s.atc.stack.length then .refused (refusalNamed .authority .stackFull)
      else if s.atc.lal.getD 0 ≤ r.level then .refused (refusalNamed .authority .noGain)
      else afterPush (s.pushFrame r)) s

/-- DROP_AUTHORITY (R97, R98). -/
def execDropAuthority (h : Hdr) (s : State) : Result :=
  takeRequest h (.dropAuthority h) withOperator (fun s =>
    if s.atc.stack.isEmpty then .refused (refusalNamed .authority .notElevated)
    else
      let popped := (Ev.start s).pop.finish
      .answered popped
        (okReply (.dropped popped.atc.stack.length (popped.atc.lal.getD 0) (s.withdrawalCount s.atc.stack.length)))) s

/-- ELEVATION_EXPIRY: the elevation timer, running out of what was left on it, reaches 0. The notice of the expiry comes before
that of the withdrawals (R100). -/
def execElevationExpiry (s : State) : Result :=
  whenRunning s fun s =>
    match s.atc.timer, s.atc.stack with
    | some ms, f :: rest =>
      let noticed := (s.elapse ms).notify (.elevationExpired (rest.length + 1) f.staff)
      (Ev.start noticed).pop.finish
    | _, _ => s

/-! ## Overrides -/

/-- The stage-A sum of the live lines with line `l` at the new price, or the line's extended amount at it, is too large (R89, step 6). -/
def priceTooLarge (ls : List Line) (l : Line) (p : Nat) : Bool :=
  let e := extendedAmount l.measure p l.qty
  decide (Config.maxAmount < e) || decide (Config.maxAmount < stageSum ls - l.stageAmount + e)

/-- Steps 5 and 6 of the checks of OVERRIDE; `none` when they pass (R89). -/
def overrideRefusal (ls : List Line) (r : OverrideRequest) : Option Reply :=
  match r with
  | .line n v => match lineAt ls n with
    | none => some (refusal .lineState)
    | some l =>
      if !l.live then some (refusal .lineState)
      else if !overrideInRange r then some (refusal .range)
      else match v with
        | .price p => if priceTooLarge ls l p then some (refusal .range) else none
        | _ => none
  | _ => if overrideInRange r then none else some (refusal .range)

/-- A basket in HELD, its override waiting for authority (R93). -/
def holdBasket (b : Basket) : Basket := { b with state := .held }

/-- An override that has passed its checks, on the active basket `b` of slot `i`: applied, or held (R92, R93). -/
def decideOverride (s : State) (i : Fin 4) (b : Basket) (r : OverrideRequest) : Answer :=
  let reduction := reductionOf b.lines r
  let gate := s.gateFor b.lines r reduction
  if s.satisfiable gate reduction then
    .answered (s.applyOverride i r reduction)
      (okNamed .applied (.applied (s.appliedReport r reduction gate b.revision)))
  else
    .answered ({ s with atc := { s.atc with held := some ⟨r, reduction, gate, i⟩ } }.updateBasket i holdBasket)
      (okNamed .heldForAuthority (.heldForAuthority gate reduction))

/-- OVERRIDE (R89 to R93). -/
def execOverride (h : Hdr) (kind form line : Byte) (value : Quad) (s : State) : Result :=
  takeRequest h (.override h kind form line value) trading (fun s =>
    onOpen (fun i b =>
      let r := overrideOf kind form line value
      match overrideRefusal b.lines r with
      | some refused => .refused refused
      | none => decideOverride s i b r) s) s

/-- CANCEL_OVERRIDE (R96). -/
def execCancelOverride (h : Hdr) (s : State) : Result :=
  takeRequest h (.cancelOverride h) trading (fun s =>
    onState .held (fun i _ =>
      match s.atc.held with
      | none => .refused (refusal .basketState)
      | some o =>
        .answered ({ s with atc := { s.atc with held := none } }.updateBasket i resumeTrading)
          (okReply (.cancelled o.request.kind o.request.line?))) s) s

end Sys2Proof.Machine
end

