-- ==== Sys2Proof/Machine/Reads.lean ====
section
/-!
DEFINITION. The requests that read (READ_LINE, READ_ADJUSTMENTS, READ_ROSTER, READ_ALLOTMENT), and PURGE_STATION (R23, R115, R152, R154, R168).
-/

namespace Sys2Proof.Machine

/-- READ_LINE (R23). -/
def execReadLine (h : Hdr) (line : Byte) (s : State) : Result :=
  takeRequest h (.readLine h line) trading (fun s =>
    onActive (fun _ b => match lineAt b.lines line.toNat with
      | none => .refused (refusal .lineState)
      | some l => .answered s (okReply (.line l b.revision b.current))) s) s

/-- What READ_ADJUSTMENTS reports of a basket (R115). -/
def Basket.report (b : Basket) : AdjustmentsReport :=
  { adjustments := b.adjustments, coupons := b.coupons, member := b.member, request := b.request, points := b.points,
    revision := b.revision, summaryRevision := b.summary.revision }

/-- READ_ADJUSTMENTS (R115). -/
def execReadAdjustments (h : Hdr) (s : State) : Result :=
  takeRequest h (.readAdjustments h) trading (fun s =>
    onActive (fun _ b => .answered s (okReply (.adjustments b.report))) s) s

/-- How many roster entries are in a state (R168, R174). -/
def State.rosterCount (s : State) (st : RosterState) : Nat :=
  (s.pst.roster.filter (fun e => e.2.state == st)).length

/-- What READ_ROSTER reports: the entries of the other 31 station numbers in rising order (R168). -/
def State.rosterReport (s : State) : RosterReport :=
  { station := s.stc.station, dayNumber := s.stc.dayNumber, tableTag := s.tableTag, conflict := s.pst.conflict,
    entries := (stationNumbers.filter (fun t => t != s.stc.station)).map (fun t => (t, s.rosterEntry t)),
    presentCount := s.rosterCount .present, silentCount := s.rosterCount .silent,
    foreignCount := s.rosterCount .foreign,
    serialCount := s.pst.serials.length, memberCount := s.pst.members.length,
    ignored := s.pst.ignored, serialEvictions := s.pst.serialEvictions, memberEvictions := s.pst.memberEvictions }

/-- READ_ROSTER (R168). -/
def execReadRoster (h : Hdr) (s : State) : Result :=
  takeRequest h (.readRoster h) onceConfigured (fun s => .answered s (okReply (.roster s.rosterReport))) s

/-- The pending units of allotment `a` of slot `i` in a list of records. -/
def pendingIn (q : List Record) (i : Fin 4) (a : Nat) : Nat := (q.map (fun r => r.pendingUnits i a)).sum

/-- The records in flight, and those queued and not in flight (R135). -/
def State.flightSplit (s : State) : List Record × List Record :=
  match s.cle.inFlight with
  | .head => (s.cle.queue.take 1, s.cle.queue.drop 1)
  | _ => ([], s.cle.queue)

/-- What READ_ALLOTMENT reports of allotment `a` (R154). Of each slot that is not FREE it gives the slot number, the held units, and the
pending units as two figures, queued and in flight, where R154 can also be read to ask for their one total (log entry 44). -/
def State.allotmentReport (s : State) (a : Nat) : AllotmentReport :=
  let d := tableGet a s.ptb.allots
  { quantity := s.quantity a, entry := d.bind (·.entry), limit := (d.map (·.limit)).getD 0,
    sold := countGet a s.cle.sold, own := s.ownHoldings a,
    holdings := stationNumbers.map (s.column a), total := s.allotTotal a,
    remaining := s.quantity a - s.allotTotal a,
    owed := s.cle.owed.getLsbD a, echoes := (s.cle.echoes.filter (fun e => e.1 == a)).length,
    slots := (slotNumbers.filter (fun i => (s.bst.get i).isSome)).map (fun i =>
      (i.val, heldIn (s.bst.get i) a, pendingIn s.flightSplit.2 i a, pendingIn s.flightSplit.1 i a)) }

/-- READ_ALLOTMENT (R154). -/
def execReadAllotment (h : Hdr) (allotment : Byte) (s : State) : Result :=
  takeRequest h (.readAllotment h allotment) onceConfigured (fun s =>
    if 31 < allotment.toNat then .refused (refusal .range)
    else .answered s (okReply (.allotment (s.allotmentReport allotment.toNat)))) s

/-- PURGE_STATION (R152): its checks in order, and the record whose end answers it (R153). -/
def execPurgeStation (h : Hdr) (target : Byte) (s : State) : Result :=
  takeRequest h (.purgeStation h target) onTheBus (fun s =>
    if 1 < s.atc.lal.getD 0 then .refused (refusalNamed .authority .level)
    else if !stationInRange target.toNat then .refused (refusal .range)
    else if s.cannotSend then .refused (refusal .laneDown)
    else if s.queueRoom = 0 then .refused (refusal .limit)
    else .deferred (s.enqueue (.purge target.toNat h.tag))) s

end Sys2Proof.Machine
end

