-- ==== Sys2Proof/Machine/Timers.lean ====
section
/-!
DEFINITION. The timed events of the claims engine, the roster and the join window (R141, R150, R157, R174). Each command is the expiry
itself: what is left of its span passes on the time base first (log entry 7).
-/

namespace Sys2Proof.Machine

/-- The ms left until an age that is `age` now reaches the claim age limit (R141). -/
def ageLeft (age : Nat) : Nat := Config.claimAgeMs - age

/-- CLAIM_AGE_EXPIRY of the record at place `n` of the queue: UNSETTLED unless its frame is in flight, which goes on to its end (R141). -/
def expireRecord (s : State) (n : Nat) : State :=
  match s.cle.queue[n]? with
  | none => s
  | some r =>
    let now := s.elapse (ageLeft (s.ageOf r.enqueued))
    if n = 0 ∧ s.cle.inFlight = .head then now
    else (((Ev.start now).map (fun s => s.dropRecord n)).unsettle r.kind).finish

/-- CLAIM_AGE_EXPIRY of the announcement in hand (R141). -/
def expireAnnouncement (s : State) : State :=
  match s.cle.announcement with
  | none => s
  | some a =>
    let now := s.elapse (ageLeft (s.ageOf a.firstOffer))
    if s.cle.inFlight = .announcement then now else unsettleAnnouncement a.kind now

/-- CLAIM_AGE_EXPIRY (R141). -/
def execClaimAgeExpiry (target : AgeTarget) (s : State) : Result :=
  whenRunning s fun s =>
    match target with
    | .record n => expireRecord s n
    | .announcement => expireAnnouncement s

/-- PRESENCE_DUE: the presence timer reaches 10 s (R150). -/
def execPresenceDue (s : State) : Result :=
  whenRunning s fun s =>
    match s.cle.presence with
    | none => s
    | some t => s.elapse (Config.presenceMs - t)

/-- A roster entry that has become SILENT, its other fields kept (R157). -/
def RosterEntry.silence (e : RosterEntry) : RosterEntry := { e with state := .silent }

/-- ROSTER_SILENT: a PRESENT or FOREIGN entry has gone unheard for 30 s (R157). -/
def execRosterSilent (station : Byte) (s : State) : Result :=
  whenRunning s fun s =>
    let e := s.rosterEntry station.toNat
    if e.state = .present ∨ e.state = .foreign then
      let now := s.elapse (Config.silentMs - e.sinceHeard.getD 0)
      { now with pst := { now.pst with
          roster := tablePut station.toNat (now.rosterEntry station.toNat).silence now.pst.roster } }
    else s

/-- The sum over all allotments of the station's own holdings (R174). -/
def State.holdingsSum (s : State) : Nat := (allotmentNumbers.map s.ownHoldings).sum

/-- JOIN_WINDOW_EXPIRY (R174). -/
def execJoinWindowExpiry (s : State) : Result :=
  whenRunning s fun s =>
    match s.stc.join with
    | .running ms =>
      let now := s.elapse ms
      ({ now with stc := { now.stc with day := .trading, join := .idle } }.owesHoldings).notify
        (.joinComplete now.stc.dayNumber (now.rosterCount .present) now.holdingsSum)
    | _ => s

end Sys2Proof.Machine
end

