-- ==== Sys2Proof/Machine/Clock.lean ====
section
/-!
DEFINITION. What happens while no command waits: time passes, a millisecond at a step, and an event whose span has run out is taken
(R179). The table of commands has no row for a tick; this is the model's choice (log entry 1).
-/

namespace Sys2Proof.Machine

/-- The elevation timer has reached 0 (R100). -/
def elevationDue (s : State) : List Instr :=
  if s.atc.timer = some 0 then [.elevationExpiry] else []

/-- The join window has reached 0 (R174). -/
def joinDue (s : State) : List Instr :=
  if s.stc.join = .running 0 then [.joinWindowExpiry] else []

/-- The records, and the announcement in hand, that are not in flight and have reached 3 s of age (R141). -/
def agesDue (s : State) : List Instr :=
  ((s.cle.queue.zipIdx.filter (fun e =>
      decide (Config.claimAgeMs ≤ s.ageOf e.1.enqueued) && !(e.2 == 0 && s.cle.inFlight == .head))).map
    (fun e => Instr.claimAgeExpiry (.record e.2))) ++
  (match s.cle.announcement with
    | some a =>
      if Config.claimAgeMs ≤ s.ageOf a.firstOffer ∧ s.cle.inFlight ≠ .announcement then
        [.claimAgeExpiry .announcement]
      else []
    | none => [])

/-- The roster entries that have gone unheard for 30 s (R157). -/
def silencesDue (s : State) : List Instr :=
  (s.pst.roster.filter (fun e =>
      (e.2.state == .present || e.2.state == .foreign) &&
      decide (Config.silentMs ≤ e.2.sinceHeard.getD 0))).map (fun e => Instr.rosterSilent (BitVec.ofNat 8 e.1))

/-- The stretch of LC has reached its limit (R125). -/
def stretchDue (s : State) : List Instr :=
  match s.lbp.frame with
  | .stretching _ _ ms => if Config.stretchMs ≤ ms then [.stretchLimitExpiry] else []
  | _ => []

/-- The events whose spans have run out. The presence interval needs no event, and a recheck of a FAULTED bus comes with
the levels it finds, from outside. -/
def dueEvents (s : State) : List Instr :=
  stretchDue s ++ elevationDue s ++ joinDue s ++ agesDue s ++ silencesDue s

/-- The event taken while no command waits, with the state it is taken in. Which of several due events comes first the manual
leaves open: it is a free value (log entry 4). -/
def nextDue (s : State) : Option (Instr × State) :=
  if s.inReset then none
  else match dueEvents s with
    | [] => none
    | [c] => some (c, s)
    | c :: d :: rest =>
      let due := c :: d :: rest
      some (due.getD (Config.dueChoice s.dueChoices % due.length) c, { s with dueChoices := s.dueChoices + 1 })

/-- One millisecond with nothing to do; a part in reset keeps no time (R178, R179). -/
def State.tick (s : State) : State := if s.inReset then s else s.elapse 1

end Sys2Proof.Machine
end

