-- ==== Sys2Proof/Machine/Basket.lean ====
section
/-!
DEFINITION. The requests that open, set aside, change, total, reopen, close and void a basket (Baskets and Lines; Coupons and Loyalty
Members; R65).
-/

namespace Sys2Proof.Machine

/-! ## Opening, parking and recalling -/

/-- The summary of a new basket (R5). -/
def Summary.empty : Summary :=
  { revision := 0, gross := 0, overrideReduction := 0, promotionDiscount := 0, net := 0, redemptionPoints := 0,
    redemptionValue := 0, payable := 0, pointsEarned := 0, liveLines := 0, applyingCoupons := 0,
    flags := ⟨false, false, false, false, false⟩ }

/-- A new basket record (R5, R63). -/
def Basket.opened : Basket :=
  { state := .trading, revision := 0, lines := [], coupons := [], member := none, request := 0, discount := none,
    award := none, held := [], points := .none, adjustments := [], summary := .empty, withdrawn := false,
    localMark := false, nextCoupon := 0, pricedLines := 0 }

/-- OPEN_BASKET (R5). -/
def execOpenBasket (h : Hdr) (s : State) : Result :=
  takeRequest h (.openBasket h) trading (fun s =>
    if s.bst.active.isSome then .refused (refusal .basketState)
    else match s.bst.lowestFree with
      | none => .refused (refusal .limit)
      | some i => .answered (s.setSlot i (some .opened)) (okReply (.slot i))) s

/-- PARK (R6, R50). -/
def execPark (h : Hdr) (s : State) : Result :=
  takeRequest h (.park h) trading (fun s =>
    onState .trading (fun i b =>
      .answered ((s.setSlot i (some { b with state := .parked })).abandonScan.dropTotal) (okReply (.slot i))) s) s

/-- RECALL (R7). -/
def execRecall (h : Hdr) (slot : Byte) (s : State) : Result :=
  takeRequest h (.recall h slot) trading (fun s =>
    let i := slotOfByte slot
    if s.bst.active.isSome then .refused (refusal .basketState)
    else match s.bst.get i with
      | none => .refused (refusal .basketState)
      | some b =>
        if b.state = .parked then
          .answered (s.setSlot i (some { b with state := .trading })).trigger (okReply (.slotRevision i b.revision))
        else .refused (refusal .basketState)) s

/-! ## Lines -/

/-- The operands of ADD_LINE are out of range for a basket of these lines (R20). -/
def addLineOutOfRange (ls : List Line) (item : Nat) (m : Measure) (qty price : Nat) (groups : List Nat) : Bool :=
  item == 0 || !groupsInRange groups || !qtyInRange m qty || decide (Config.maxUnitPrice < price) ||
  decide (Config.maxAmount < extendedAmount m price qty) ||
  decide (Config.maxAmount < basketGross ls + extendedAmount m price qty)

/-- A line as ADD_LINE appends it, with the computed fields of a line no scan has seen (R19, R20). -/
def newLine (number item : Nat) (m : Measure) (qty price : Nat) (eligible : Bool) (groups : List Nat) : Line :=
  { number := number, item := item, measure := m, qty := qty, price := price, groups := groups, eligible := eligible,
    live := true, override := none, tier := none, consumedUnits := 0, consumedFlag := false, shares := [],
    extended := extendedAmount m price qty, net := extendedAmount m price qty, points := 0 }

/-- ADD_LINE (R20). -/
def execAddLine (h : Hdr) (item : Quad) (measure : Byte) (qty : Triple) (price : Quad) (eligible : Bool)
    (groups : List Byte) (s : State) : Result :=
  takeRequest h (.addLine h item measure qty price eligible groups) trading (fun s =>
    onOpen (fun i b =>
      let m := measureOfByte measure
      let gs := groups.map (·.toNat)
      if addLineOutOfRange b.lines item.toNat m qty.toNat price.toNat gs then .refused (refusal .range)
      else if Config.maxLines ≤ b.lines.length then .refused (refusal .limit)
      else
        let number := b.lines.length + 1
        .answered
          (s.changeBasket i (fun b =>
            { b with lines := b.lines ++ [newLine number item.toNat m qty.toNat price.toNat eligible gs] }))
          (okReply (.lineRevision number (b.revision + 1)))) s) s

/-- The basket gross with line `l` at quantity `q` (R21). -/
def grossWith (ls : List Line) (l : Line) (q : Nat) : Nat :=
  basketGross ls - l.catalogue + extendedAmount l.measure l.price q

/-- The new quantity of a LIVE line is out of range (R21, step 4). -/
def qtyOutOfRange (ls : List Line) (l : Line) (q : Nat) : Bool :=
  !qtyInRange l.measure q || decide (Config.maxAmount < extendedAmount l.measure l.price q) ||
  decide (Config.maxAmount < grossWith ls l q)

/-- A line at a new quantity, its override discarded (R21). The computed fields of a line that a completed scan has written stand
until the next completion; a line added since shows its catalogue extended amount as its extended amount and its net (R19). -/
def changedLine (priced : Bool) (q : Nat) (l : Line) : Line :=
  let changed := { l with qty := q, override := none }
  if priced then changed else { changed with extended := changed.catalogue, net := changed.catalogue }

/-- CHANGE_QTY (R21). -/
def execChangeQty (h : Hdr) (line : Byte) (qty : Triple) (s : State) : Result :=
  takeRequest h (.changeQty h line qty) trading (fun s =>
    onOpen (fun i b =>
      let n := line.toNat
      if outside qty.toNat 1 999999 then .refused (refusal .range)
      else match lineAt b.lines n with
        | none => .refused (refusal .lineState)
        | some l =>
          if !l.live then .refused (refusal .lineState)
          else if qtyOutOfRange b.lines l qty.toNat then .refused (refusal .range)
          else .answered
            (s.changeBasket i (fun b =>
              { b with lines := modifyAt (n - 1) (changedLine (decide (n ≤ b.pricedLines)) qty.toNat) b.lines }))
            (okReply (.lineRevision n (b.revision + 1)))) s) s

/-- VOID_LINE (R22). -/
def execVoidLine (h : Hdr) (line : Byte) (s : State) : Result :=
  takeRequest h (.voidLine h line) trading (fun s =>
    onOpen (fun i b =>
      let n := line.toNat
      match lineAt b.lines n with
      | none => .refused (refusal .lineState)
      | some l =>
        if !l.live then .refused (refusal .lineState)
        else .answered
          (s.changeBasket i (fun b =>
            { b with lines := modifyAt (n - 1) (fun l => { l with live := false, override := none }) b.lines }))
          (okReply (.lineRevision n (b.revision + 1)))) s) s

/-! ## Coupons -/

/-- A coupon as PRESENT_COUPON appends it (R104). -/
def newCoupon (id cls serial : Nat) : Coupon :=
  { id := id, cls := cls, serial := serial, state := .presented, applied := 0 }

/-- The basket with a coupon presented at the end of its list (R104). -/
def appendCoupon (cls serial : Nat) (b : Basket) : Basket :=
  { b with coupons := b.coupons ++ [newCoupon b.nextCoupon cls serial], nextCoupon := b.nextCoupon + 1 }

/-- PRESENT_COUPON (R104). -/
def execPresentCoupon (h : Hdr) (cls : Byte) (serial : SerialWord) (s : State) : Result :=
  takeRequest h (.presentCoupon h cls serial) trading (fun s =>
    onOpen (fun i b =>
      let c := cls.toNat
      let n := serial.toNat
      if c = 0 then .refused (refusal .range)
      else if n ≠ 0 ∧ b.coupons.any (fun k => k.cls == c && k.serial == n) then
        .refused (refusalNamed .duplicate .inBasket)
      else if n ≠ 0 ∧ s.pst.serials.contains (c, n) then .refused (refusalNamed .duplicate .redeemedSerial)
      else if Config.maxCoupons ≤ b.coupons.length then .refused (refusal .limit)
      else .answered (s.changeBasket i (appendCoupon c n))
        (okReply (.couponAdded (b.coupons.length + 1) (b.coupons.length + 1) (b.revision + 1)))) s) s

/-- The coupon WITHDRAW_COUPON names: the one of that class and serial, or the plain one of the class presented last (R105). -/
def namedCoupon (cs : List Coupon) (cls serial : Nat) : Option Coupon :=
  if serial = 0 then cs.reverse.find? (fun c => c.cls == cls && c.serial == 0)
  else cs.find? (fun c => c.cls == cls && c.serial == serial)

/-- The basket with the coupon of that identity gone from its list (R105). -/
def dropCoupon (id : Nat) (b : Basket) : Basket :=
  { b with coupons := b.coupons.filter (fun c => c.id != id) }

/-- WITHDRAW_COUPON (R105). -/
def execWithdrawCoupon (h : Hdr) (cls : Byte) (serial : SerialWord) (s : State) : Result :=
  takeRequest h (.withdrawCoupon h cls serial) trading (fun s =>
    onOpen (fun i b =>
      match namedCoupon b.coupons cls.toNat serial.toNat with
      | none => .refused (refusalNamed .lineState .noCoupon)
      | some c =>
        if c.state = .refused then .refused (refusalNamed .lineState .couponRefused)
        else .answered (s.changeBasket i (dropCoupon c.id))
          (okReply (.couponsLeft (dropCoupon c.id b).coupons.length (b.revision + 1)))) s) s

/-! ## The member -/

/-- SET_MEMBER (R110). -/
def execSetMember (h : Hdr) (member : MemberWord) (tier : Byte) (balance : Triple) (s : State) : Result :=
  takeRequest h (.setMember h member tier balance) trading (fun s =>
    onOpen (fun i b =>
      if outside member.toNat 1 999999999999 ∨ 3 < tier.toNat ∨ Config.maxPoints < balance.toNat then
        .refused (refusal .range)
      else .answered
        (s.changeBasket i (fun b => { b with member := some ⟨member.toNat, tier.toNat, balance.toNat⟩, request := 0 }))
        (okReply (.revision (b.revision + 1)))) s) s

/-- CLEAR_MEMBER (R111). -/
def execClearMember (h : Hdr) (s : State) : Result :=
  takeRequest h (.clearMember h) trading (fun s =>
    onOpen (fun i b =>
      if b.member.isNone then .refused (refusalNamed .basketState .noMember)
      else .answered (s.changeBasket i (fun b => { b with member := none, request := 0 }))
        (okReply (.revision (b.revision + 1)))) s) s

/-- REDEEM_POINTS (R112). -/
def execRedeemPoints (h : Hdr) (points : Triple) (s : State) : Result :=
  takeRequest h (.redeemPoints h points) trading (fun s =>
    onOpen (fun i b =>
      if b.member.isNone then .refused (refusalNamed .basketState .noMember)
      else if Config.maxPoints < points.toNat then .refused (refusal .range)
      else .answered (s.changeBasket i (fun b => { b with request := points.toNat }))
        (okReply (.revision (b.revision + 1)))) s) s

/-! ## TOTAL -/

/-- TOTAL (R65). -/
def execTotal (h : Hdr) (s : State) : Result :=
  takeRequest h (.total h) trading (fun s =>
    onActive (fun i b =>
      if s.eve.waitingTotal.isSome then .refused (refusal .busy)
      else if s.priced b then .answered s (okReply (.total i b.summary))
      else .deferred { s with eve := { s.eve with waitingTotal := some h.tag } }) s) s

/-! ## Settled baskets -/

/-- The coupons of a basket that need a SERIAL_RELEASE when it leaves the settled state: REDEEMED, with a serial (R15, R17). -/
def redeemedSerials (b : Basket) : List (Nat × Nat) :=
  (b.coupons.filter (fun c => c.state == .redeemed && c.serial != 0)).map (fun c => (c.cls, c.serial))

/-- The points a SETTLED basket's member was granted, with the member's number (R15). -/
def grantedPoints (b : Basket) : Option (Nat × Nat) :=
  match b.points, b.member with
  | .granted p, some m => some (m.number, p)
  | _, _ => none

/-- The releases that a SETTLED basket needs: one for each redeemed serial, and one for granted points (R15, R17). -/
def releasesNeeded (b : Basket) : Nat :=
  (redeemedSerials b).length + (grantedPoints b).toList.length

/-- Those releases entered, serials in coupon list order and then points (R15, R18). The list order is R15's, for REOPEN; R18 and R108 give
the serials of a VOID_BASKET none, and they are taken in list order too (log entry 47). -/
def State.enterReleases (s : State) (b : Basket) : State :=
  let serials := (redeemedSerials b).foldl (fun s c => s.enqueue (.serialRelease c.1 c.2)) s
  match grantedPoints b with
  | some g => serials.enqueue (.pointsRelease g.1 g.2)
  | none => serials

/-- A basket returned from SETTLED to TRADING (R15, R108). -/
def reopened (b : Basket) : Basket :=
  { b with
    state := .trading,
    coupons := b.coupons.map (fun c => if c.state = .refused then c else { c with state := .presented }),
    points := .none }

/-- REOPEN (R15). -/
def execReopen (h : Hdr) (s : State) : Result :=
  takeRequest h (.reopen h) trading (fun s =>
    onState .settled (fun i b =>
      if s.queueRoom < releasesNeeded b then .refused (refusal .limit)
      else .answered ((s.enterReleases b).changeBasket i reopened) (okReply .none)) s) s

/-- The sold counts with a closed basket's held units added (R16, R146). -/
def soldWith (b : Basket) (sold : Counts) : Counts :=
  allotmentNumbers.foldl (fun c a => countSet a (saturate (countGet a c + countGet a b.held)) c) sold

/-- The station with a closed basket's held units sold (R16, R146). -/
def State.sellHeld (s : State) (b : Basket) : State :=
  { s with cle := { s.cle with sold := soldWith b s.cle.sold } }

/-- CLOSE (R16). -/
def execClose (h : Hdr) (s : State) : Result :=
  takeRequest h (.close h) trading (fun s =>
    onState .settled (fun i b => .answered ((s.sellHeld b).setSlot i none) (okReply (.slot i))) s) s

/-! ## Voiding -/

/-- A record after its basket in slot `i` is voided while it is in flight: detached from the slot (R18, R145). -/
def RecordKind.detachFrom (k : RecordKind) (i : Fin 4) : RecordKind :=
  match k with
  | .allotClaim (some j) a n => if j = i then .allotClaim none a n else k
  | .serialClaim (some j) c n => if j = i then .serialClaim none c n else k
  | .pointsClaim (some j) m p => if j = i then .pointsClaim none m p else k
  | k => k

/-- The queue without the queued claims of slot `i`, an in-flight claim of it detached and kept at the head (R18, R145). -/
def State.dropClaims (s : State) (i : Fin 4) : State :=
  let without (q : List Record) : List Record := q.filter (fun r => r.kind.slot? != some i)
  match s.cle.inFlight, s.cle.queue with
  | .head, r :: rest =>
    { s with cle := { s.cle with queue := { r with kind := r.kind.detachFrom i } :: without rest } }
  | _, q => { s with cle := { s.cle with queue := without q } }

/-- The held units of a voided basket released, allotment by allotment, as its slot falls FREE (R18, R146). R18 gives the allotments no
order, which decides the ones that meet a full queue; they are taken in rising number here (log entry 41). -/
def State.releaseHeld (s : State) (b : Basket) : State :=
  allotmentNumbers.foldl (fun s a => if countGet a b.held = 0 then s else s.releaseUnits a (countGet a b.held)) s

/-- What VOID_BASKET does to the engine and to the held override when the voided basket `b` was the active one (R18, R50, R93). -/
def State.leaveActive (s : State) (b : Basket) : State :=
  let engine := s.abandonScan.dropTotal
  if b.state = .held then { engine with atc := { engine.atc with held := none } } else engine

/-- The station after VOID_BASKET of slot `i`, whose basket is `b` (R18). -/
def State.voidSlot (s : State) (i : Fin 4) (b : Basket) : State :=
  let active := s.bst.active = some i
  let claimed := s.dropClaims i
  let released := if b.state = .settled then claimed.enterReleases b else claimed
  let emptied := (released.releaseHeld b).setSlot i none
  if active then emptied.leaveActive b else emptied

/-- The checks of VOID_BASKET on the basket it names, and its effects (R17, R18). -/
def voidNamed (s : State) (i : Fin 4) : Answer :=
  match s.bst.get i with
  | none => .refused (refusal .noBasket)
  | some b => match b.state with
    | .finalising _ _ => .refused (refusal .basketState)
    | .settled =>
      if s.queueRoom < releasesNeeded b then .refused (refusal .limit)
      else .answered (s.voidSlot i b) (okReply (.slot i))
    | _ => .answered (s.voidSlot i b) (okReply (.slot i))

/-- VOID_BASKET (R17, R18). -/
def execVoidBasket (h : Hdr) (slot : Byte) (s : State) : Result :=
  takeRequest h (.voidBasket h slot) trading (fun s =>
    if slot = noSlot then onActive (fun i _ => voidNamed s i) s else voidNamed s (slotOfByte slot)) s

end Sys2Proof.Machine
end

