-- ==== Sys2Proof/Machine/Finalise.lean ====
section
/-!
DEFINITION. Finalisation: FINALISE and the phases F2, F3 and F4 (R8 to R12, R99, R106, R113). F1 is the wait of a basket in phase `f1`.
-/

namespace Sys2Proof.Machine

/-- FINALISE: the active basket goes to FINALISING at F1, the response deferred to F4 (R8). -/
def execFinalise (h : Hdr) (s : State) : Result :=
  takeRequest h (.finalise h) trading (fun s =>
    onState .trading (fun i b => .deferred (s.setSlot i (some { b with state := .finalising .f1 h.tag }))) s) s

/-- The finalising basket at work: its slot, its record, its phase and the tag of its FINALISE. A phase that has nothing to work on
leaves the state as it is (log entry 5). -/
def onFinalising (k : Fin 4 → Basket → FinalPhase → Byte → State) (s : State) : State :=
  match s.bst.active with
  | none => s
  | some i => match s.bst.get i with
    | none => s
    | some b => match b.state with
      | .finalising phase tag => k i b phase tag
      | _ => s

/-- The basket of slot `i` in a phase of its finalisation. -/
def setPhase (phase : FinalPhase) (tag : Byte) (b : Basket) : Basket := { b with state := .finalising phase tag }

/-! ## F2 -/

/-- The conditions that end F1 (R9). -/
def State.f1Done (s : State) (i : Fin 4) (b : Basket) : Bool := !s.hasAllotClaim i && s.priced b

/-- The conditions that end the wait of F3 (R11). -/
def State.f3Done (s : State) (i : Fin 4) (b : Basket) : Bool :=
  !b.coupons.any (fun c => c.state == .redeeming) && !s.hasPointsClaim i && s.priced b

/-- A claim can be entered now: there is room, or it is resolved at once and takes no place (R10, R143). -/
def State.canEnter (s : State) : Bool := s.cannotSend || decide (0 < s.queueRoom)

/-- F2 on its way through the coupon list: the event so far, the coupons taken, whether a coupon's state was changed, and whether it
waits for queue room (R10). -/
structure F2Run where
  ev      : Ev
  cursor  : Nat
  changed : Bool
  waits   : Bool

/-- The coupon at place `n` given the state `st`. -/
def setCouponAt (n : Nat) (st : CouponState) (b : Basket) : Basket :=
  { b with coupons := modifyAt n (fun c => { c with state := st }) b.coupons }

/-- One coupon taken by F2: an APPLYING one with a serial has its claim entered, or waits for room; a plain one is REDEEMED (R10). -/
def F2Run.coupon (r : F2Run) (i : Fin 4) (c : Coupon) : F2Run :=
  if r.waits then r
  else if c.state ≠ .applying then { r with cursor := r.cursor + 1 }
  else if c.serial = 0 then
    { r with ev := r.ev.map (fun s => s.updateBasket i (setCouponAt r.cursor .redeemed)),
             cursor := r.cursor + 1, changed := true }
  else if r.ev.state.canEnter then
    { r with ev := (r.ev.map (fun s => s.updateBasket i (setCouponAt r.cursor .redeeming))).enterClaim i
                     (.serialClaim (some i) c.cls c.serial),
             cursor := r.cursor + 1, changed := true }
  else { r with waits := true }

/-- The points F2 claims: the summary's redemption points and the basket's member, while the outcome is NONE (R10). -/
def pointsWanted (b : Basket) : Option (Nat × Nat) :=
  match b.points, b.member with
  | .none, some m => if b.summary.redemptionPoints = 0 then none else some (m.number, b.summary.redemptionPoints)
  | _, _ => none

/-- The points claim of F2, after the coupons (R10, R113). -/
def F2Run.points (r : F2Run) (i : Fin 4) (b : Basket) : F2Run :=
  if r.waits then r
  else match pointsWanted b with
    | none => r
    | some w =>
      if r.ev.state.canEnter then { r with ev := r.ev.enterClaim i (.pointsClaim (some i) w.1 w.2) }
      else { r with waits := true }

/-- F2 from the coupon at `cursor` on, until it has finished or waits for room. On finishing it raises the revision once if it changed
a coupon's state, and goes to F3 (R10). -/
def runF2 (s : State) (i : Fin 4) (b : Basket) (tag : Byte) (cursor : Nat) (changed : Bool) : State :=
  let begun : F2Run := ⟨Ev.start s, cursor, changed, false⟩
  let taken : F2Run := (b.coupons.drop cursor).foldl (fun r c => r.coupon i c) begun
  let r : F2Run := taken.points i b
  if r.waits then (r.ev.map (fun s => s.updateBasket i (setPhase (.f2 r.cursor r.changed) tag))).finish
  else
    let done := r.ev.map (fun s => s.updateBasket i (setPhase .f3 tag))
    (if r.changed then done.write i id else done).finish

/-- FINALISE_F2: F1's or F3's conditions hold and F2 begins, or F2 that waited for queue room goes on (R9 to R11). -/
def execFinaliseF2 (s : State) : Result :=
  whenRunning s fun s =>
    onFinalising (fun i b phase tag => match phase with
      | .f1 => if s.f1Done i b then runF2 s i b tag 0 false else s
      | .f2Due => if s.f3Done i b then runF2 s i b tag 0 false else s
      | .f2 cursor changed => runF2 s i b tag cursor changed
      | .f3 | .f4 => s) s

/-! ## F3 -/

/-- The current summary calls for another F2: a coupon is APPLYING, or the points outcome is NONE with redemption points above 0 (R11). -/
def callsForF2 (b : Basket) : Bool :=
  b.coupons.any (fun c => c.state == .applying) || (b.points == .none && decide (0 < b.summary.redemptionPoints))

/-- FINALISE_F3 (R11). -/
def execFinaliseF3 (s : State) : Result :=
  whenRunning s fun s =>
    onFinalising (fun i b phase tag => match phase with
      | .f3 =>
        if s.f3Done i b then s.updateBasket i (setPhase (if callsForF2 b then .f2Due else .f4) tag) else s
      | _ => s) s

/-! ## F4 -/

/-- The points granted beyond what the summary redeems, with the member's number (R12). -/
def surplusPoints (b : Basket) : Option (Nat × Nat) :=
  match b.points, b.member with
  | .granted p, some m =>
    if b.summary.redemptionPoints < p then some (m.number, p - b.summary.redemptionPoints) else none
  | _, _ => none

/-- The points outcome as F4 leaves it: GRANTED lowered to the summary's redemption points, NONE when those are 0 (R12). -/
def settledPoints (b : Basket) : PointsOutcome :=
  match b.points with
  | .granted p =>
    if b.summary.redemptionPoints = 0 then .none else .granted (min p b.summary.redemptionPoints)
  | o => o

/-- An applied override that is no longer presence-bound (R99). -/
def unbind {α : Type} (o : Option (Applied α)) : Option (Applied α) :=
  o.map (fun a => { a with stamp := { a.stamp with bound := false } })

/-- A basket as F4 settles it (R12, R99). -/
def settle (b : Basket) : Basket :=
  { b with
    state := .settled, points := settledPoints b,
    lines := b.lines.map (fun l => { l with override := unbind l.override }),
    discount := unbind b.discount, award := unbind b.award }

/-- The basket settled, its release entered, and FINALISE answered with its summary (R12). -/
def settleNow (s : State) (i : Fin 4) (b : Basket) (tag : Byte) : State :=
  let released := match surplusPoints b with
    | some w => s.enqueue (.pointsRelease w.1 w.2)
    | none => s
  (released.updateBasket i settle).respond tag (okReply (.settled b.summary))

/-- FINALISE_F4: the basket settles on its current summary; it waits while a release it needs finds no queue room (R12). A scan that a
SET_WINDOW or a SET_TIME_BAND started raises no revision, so when it completes after F3's decision F4 settles on its summary without
another F3 (log entry 37). -/
def execFinaliseF4 (s : State) : Result :=
  whenRunning s fun s =>
    onFinalising (fun i b phase tag => match phase with
      | .f4 =>
        if s.priced b && ((surplusPoints b).isNone || decide (0 < s.queueRoom)) then settleNow s i b tag else s
      | _ => s) s

end Sys2Proof.Machine
end

