-- ==== Sys2Proof/Machine/Records.lean ====
section
/-!
DEFINITION. The response and notice records as bytes (R189, R190). Where R189 names no width for a figure of a body, the width here
is the model's choice (log entry 8).
-/

namespace Sys2Proof.Machine

/-- An item that is set or clear, or a question answered yes or no, as a byte: a flag set of one flag (R189). -/
def flagByte (b : Bool) : List Byte := [if b then 1 else 0]

/-- An enumerated or counted field of one byte that may be absent, 0xFF standing for absent as in a slot field (R189). -/
def optByte (o : Option Nat) : List Byte :=
  match o with
  | some n => bytesOf 1 n
  | none => [0xFF]

/-- A list carried as a count byte followed by its items (R189). -/
def listBytes {α : Type} (f : α → List Byte) (xs : List α) : List Byte :=
  bytesOf 1 xs.length ++ xs.flatMap f

/-- A 16-bit field. -/
def halfBytes (h : Half) : List Byte := bytesOf 2 h.toNat

/-- A set of flags, bit 0 for the first (R189). -/
def flagSet (flags : List Bool) : List Byte :=
  bytesOf 1 ((flags.zipIdx.map (fun e => if e.1 then 2 ^ e.2 else 0)).sum)

/-- The four bytes of a signed amount, in two's complement (R189). -/
def signedBytes (i : Int) : List Byte := bytesOf 4 (BitVec.ofInt 32 i).toNat

/-! ## Enumerations, numbered in the order of their owning rules (R189) -/

/-- A slot state: FREE 0, then the states of R2 in its order. -/
def slotStateNumber (o : Option BasketState) : Nat :=
  match o with
  | none => 0
  | some .trading => 1
  | some .held => 2
  | some .parked => 3
  | some (.finalising _ _) => 4
  | some .settled => 5

/-- The port state, ON 0 and OFF 1 (R118). -/
def portStateNumber (on : Bool) : Nat := if on then 0 else 1

/-- Where the station number came from, the straps 0 and CONFIGURE 1 (R169). -/
def stationSourceNumber (fromStraps : Bool) : Nat := if fromStraps then 0 else 1

/-- The engine state, IDLE 0 and SCANNING 1 (R45). -/
def engineStateNumber (scanning : Bool) : Nat := if scanning then 1 else 0

/-- A points outcome and its granted points, 0 points for an outcome that grants none (R1, log entry 8). -/
def pointsBytes (p : PointsOutcome) : List Byte :=
  match p with
  | .none => bytesOf 1 0 ++ bytesOf 3 0
  | .granted n => bytesOf 1 1 ++ bytesOf 3 n
  | .refused => bytesOf 1 2 ++ bytesOf 3 0

/-- The join window and its ms to expiry, 0 for one that does not run (R169, log entry 8). -/
def joinBytes (w : JoinWindow) : List Byte :=
  match w with
  | .idle => bytesOf 1 0 ++ bytesOf 4 0
  | .waiting => bytesOf 1 1 ++ bytesOf 4 0
  | .running ms => bytesOf 1 2 ++ bytesOf 4 ms

/-- A scan position: the stage, A 0 to G 6, NONE 7, and the entry (R64). Where a stage is shown alone the manual gives the entry byte no
value; it is 0 here, so that stage F alone is sent as stage F at entry 0 is (log entry 8). -/
def positionBytes (p : Position) : List Byte :=
  match p with
  | .none => bytesOf 1 7 ++ bytesOf 1 0
  | .a => bytesOf 1 0 ++ bytesOf 1 0
  | .visit .b n => bytesOf 1 1 ++ bytesOf 1 n
  | .visit .c n => bytesOf 1 2 ++ bytesOf 1 n
  | .visit .d n => bytesOf 1 3 ++ bytesOf 1 n
  | .e => bytesOf 1 4 ++ bytesOf 1 0
  | .visit .f n => bytesOf 1 5 ++ bytesOf 1 n
  | .f => bytesOf 1 5 ++ bytesOf 1 0
  | .g => bytesOf 1 6 ++ bytesOf 1 0

/-- A frame kind of the outgoing queue, in the order of R135. -/
def recordKindNumber (k : RecordKind) : Nat :=
  match k with
  | .allotClaim _ _ _ => 0
  | .serialClaim _ _ _ => 1
  | .pointsClaim _ _ _ => 2
  | .allotRelease _ _ => 3
  | .serialRelease _ _ => 4
  | .pointsRelease _ _ => 5
  | .purge _ _ => 6
  | .syncAsk => 7

/-- An announcement's kind: HOLDINGS 0, PRESENCE 1 (R134). -/
def announcementNumber (k : AnnouncementKind) : Nat :=
  match k with
  | .holdings _ _ => 0
  | .presence => 1

/-- A bus state, in the order of R118; none is absent. -/
def busNumber (b : BusState) : Nat :=
  match b with
  | .busy => 0
  | .idle => 1
  | .hung _ => 2
  | .faulted _ => 3

/-- The role of the frame in hand: none 0, sent 1, received 2 (R118). -/
def frameRole (f : FrameInHand) : Nat :=
  match f with
  | .none => 0
  | .sending _ => 1
  | .receiving => 2
  | .judged _ _ _ => 2
  | .stretching _ _ _ => 2

/-- A detail on the wire: 0 for none, a named one by its number from 1, a RANGE field by its position (R189). -/
def detailNumber (d : Detail) : Nat :=
  match d with
  | .none => 0
  | .named n => n.ctorIdx + 1
  | .field p => p

/-! ## Bodies -/

/-- The 35 bytes of a summary record (R190). -/
def summaryBytes (m : Summary) : List Byte :=
  halfBytes m.revision ++ bytesOf 4 m.gross ++ signedBytes m.overrideReduction ++ bytesOf 4 m.promotionDiscount ++
  bytesOf 4 m.net ++ bytesOf 3 m.redemptionPoints ++ bytesOf 4 m.redemptionValue ++ bytesOf 4 m.payable ++
  bytesOf 3 m.pointsEarned ++ bytesOf 1 m.liveLines ++ bytesOf 1 m.applyingCoupons ++
  flagSet [m.flags.provisional, m.flags.truncated, m.flags.withdrawn, m.flags.redeemClamped, m.flags.localDecision]

/-- A stamp: staff number, level, depth, presence-bound (R88, R190). -/
def stampBytes (st : Stamp) : List Byte :=
  bytesOf 2 st.staff ++ bytesOf 1 st.level ++ bytesOf 1 st.depth ++ flagByte st.bound

/-- The override field of a line record: kind, 0xFF for none; value form; value; reduction; stamp (R190). With no override the fourteen
bytes after the kind, which R190 then gives no value, are 0 (log entry 8). -/
def lineOverrideBytes (o : Option (Applied LineOverride)) : List Byte :=
  match o with
  | none => [0xFF] ++ List.replicate 14 0
  | some a =>
    (match a.value with
      | .price p => bytesOf 1 0 ++ bytesOf 1 0 ++ bytesOf 4 p
      | .discountAmount d => bytesOf 1 1 ++ bytesOf 1 0 ++ bytesOf 4 d
      | .discountRate r => bytesOf 1 1 ++ bytesOf 1 1 ++ bytesOf 4 r) ++
    bytesOf 4 a.reduction ++ stampBytes a.stamp

/-- A line record (R190). -/
def lineBytes (l : Line) : List Byte :=
  bytesOf 1 l.number ++ bytesOf 4 l.item ++ bytesOf 1 l.measure.ctorIdx ++ bytesOf 3 l.qty ++ bytesOf 4 l.price ++
  bytesOf 1 l.groups.length ++ (l.groups ++ List.replicate (4 - l.groups.length) 0).flatMap (bytesOf 1) ++
  flagSet [l.eligible, !l.live, l.tier.isSome, l.consumedFlag] ++
  lineOverrideBytes l.override ++ bytesOf 4 (l.tier.getD 0) ++ bytesOf 2 l.consumedUnits ++
  bytesOf 1 l.shares.length ++
  (l.shares ++ List.replicate (8 - l.shares.length) (0, 0)).flatMap (fun (sh : Nat × Nat) => bytesOf 1 sh.1 ++ bytesOf 4 sh.2) ++
  bytesOf 4 l.extended ++ bytesOf 4 l.net ++ bytesOf 4 l.points

/-- An adjustment record, 17 bytes (R190). -/
def adjustmentBytes (a : Adjustment) : List Byte :=
  bytesOf 1 a.index ++ bytesOf 1 (a.entry.getD 0) ++ bytesOf 1 a.kind.ctorIdx ++ bytesOf 4 a.amount ++
  bytesOf 3 (a.units.getD 0) ++ bytesOf 1 ((a.coupon.map (·.1)).getD 0) ++ bytesOf 6 ((a.coupon.map (·.2)).getD 0)

/-- The body of an APPLIED response (R92). The line byte of a basket kind, which names no line, is 0 (log entry 8). -/
def appliedBytes (r : AppliedReport) : List Byte :=
  bytesOf 1 r.kind ++ bytesOf 1 (r.line.getD 0) ++ bytesOf 4 r.reduction ++ bytesOf 1 r.gate ++ stampBytes r.stamp ++
  halfBytes r.revision

/-- A configuration record as STATUS reports it: a presence byte and the fields of R171. -/
def configurationBytes (o : Option Configuration) : List Byte :=
  match o with
  | none => bytesOf 1 0 ++ List.replicate 9 0
  | some c =>
    bytesOf 1 1 ++ bytesOf 1 c.station ++ bytesOf 1 c.laneClass.ctorIdx ++ bytesOf 1 c.bitRate.ctorIdx ++
    bytesOf 1 c.restartPolicy.ctorIdx ++ bytesOf 1 c.allotPolicy.ctorIdx ++ bytesOf 1 c.serialPolicy.ctorIdx ++
    bytesOf 1 c.pointsPolicy.ctorIdx ++ bytesOf 2 c.timeout

/-- The eight lane counters in the order of R132. -/
def counterBytes (c : LaneCounters) : List Byte :=
  [c.framesHeard, c.crcFailures, c.declinesDriven, c.conflictsDriven, c.arbitrationLosses, c.collisions, c.hangEvents,
    c.faultedEntries].flatMap (bytesOf 2)

/-- The body of STATUS, block by block in the order of R188. A figure that is absent has no value in the manual: here a stopped timer is 0
ms, the line number is 0 with no held override or one of a basket kind, and the rest is as log entry 8 lists. The depth of the elevation
stack and the count of the list of its frames, in push order, are one byte that is both, where R84 with R189 can also be read as a depth
byte followed by a counted list: the model's choice, and so are the one byte for the frame in hand with its role (R118) and the one for
the waiting TOTAL with its tag (R64), all in log entry 8. -/
def statusBytes (r : StatusReport) : List Byte :=
  bytesOf 1 r.day.ctorIdx ++ bytesOf 1 r.station ++ bytesOf 1 (stationSourceNumber r.fromStraps) ++ bytesOf 1 r.strap.toNat ++
  configurationBytes r.config ++ halfBytes r.dayNumber ++ joinBytes r.join ++ bytesOf 4 r.timeBase.toNat ++
  bytesOf 1 r.load.ctorIdx ++ halfBytes r.tableTag ++ bytesOf 2 r.entryCount ++ bytesOf 1 r.staffCount ++
  r.slotStates.flatMap (fun o => bytesOf 1 (slotStateNumber o)) ++ optByte (r.activeSlot.map (·.val)) ++
  bytesOf 1 (engineStateNumber r.scanning) ++ optByte (r.scanSubject.map (·.val)) ++ positionBytes r.position ++ flagByte r.wanted ++
  halfBytes (r.latchedRevision.getD 0) ++ optByte (r.waitingTotal.map (·.toNat)) ++
  bytesOf 2 ((r.operator.map (·.1)).getD 0) ++ optByte (r.operator.map (·.2)) ++ optByte r.lal ++
  listBytes (fun f => bytesOf 2 f.1 ++ bytesOf 1 f.2) r.frames ++ bytesOf 4 (r.timer.getD 0) ++
  optByte (r.heldOverride.map (·.1)) ++ optByte (r.heldOverride.map (·.2.1)) ++ bytesOf 1 ((r.heldOverride.map (·.2.2)).getD 0) ++
  bytesOf 1 r.queueLength ++ optByte (r.headKind.map recordKindNumber) ++ bytesOf 1 r.headAttempts ++
  bytesOf 4 r.headAge ++ flagByte r.headInFlight ++ optByte (r.announcement.map announcementNumber) ++
  bytesOf 1 r.owedCount ++ bytesOf 2 r.echoCount ++ flagByte r.presenceDue ++
  bytesOf 1 (portStateNumber r.portOn) ++ optByte (r.bus.map busNumber) ++ bytesOf 1 (frameRole r.frame) ++ bytesOf 1 r.tenure ++
  counterBytes r.counters ++ flagByte r.laneLost ++
  flagByte r.conflict ++ bytesOf 2 r.ignored ++ bytesOf 2 r.serialEvictions ++ bytesOf 2 r.memberEvictions ++
  bytesOf 1 r.outstanding ++ bytesOf 1 r.responses ++ bytesOf 1 r.notices ++ flagByte r.noticesLost

/-- The body of READ_ADJUSTMENTS: the adjustments, then what R115 lists, in its order (R190). With no member its tier and balance, which
the manual then gives no value, are 0 (log entry 8). -/
def adjustmentsBytes (r : AdjustmentsReport) : List Byte :=
  listBytes adjustmentBytes r.adjustments ++
  listBytes (fun e => bytesOf 1 (e.2 + 1) ++ bytesOf 1 e.1.cls ++ bytesOf 6 e.1.serial ++ bytesOf 1 e.1.state.ctorIdx ++
    bytesOf 4 e.1.applied) r.coupons.zipIdx ++
  (match r.member with
    | none => bytesOf 5 0 ++ bytesOf 1 0 ++ bytesOf 3 0
    | some m => bytesOf 5 m.number ++ bytesOf 1 m.tier ++ bytesOf 3 m.balance) ++
  bytesOf 3 r.request ++ pointsBytes r.points ++ halfBytes r.revision ++ halfBytes r.summaryRevision

/-- A roster entry's fields in the order of R157; the time since last heard in whole seconds. -/
def rosterEntryBytes (e : RosterEntry) : List Byte :=
  bytesOf 1 e.state.ctorIdx ++ halfBytes (e.dayNumber.getD 0) ++ halfBytes (e.tableTag.getD 0) ++
  optByte (e.laneClass.map (·.ctorIdx)) ++ optByte e.openBaskets ++ bytesOf 2 ((e.sinceHeard.getD 0) / 1000) ++
  bytesOf 2 e.framesHeard ++ flagByte e.foreignNoticed

/-- The body of READ_ROSTER (R168). -/
def rosterBytes (r : RosterReport) : List Byte :=
  bytesOf 1 r.station ++ halfBytes r.dayNumber ++ halfBytes r.tableTag ++ flagByte r.conflict ++
  r.entries.flatMap (fun e => rosterEntryBytes e.2) ++
  bytesOf 1 r.presentCount ++ bytesOf 1 r.silentCount ++ bytesOf 1 r.foreignCount ++
  bytesOf 2 r.serialCount ++ bytesOf 1 r.memberCount ++ bytesOf 2 r.ignored ++ bytesOf 2 r.serialEvictions ++
  bytesOf 2 r.memberEvictions

/-- The body of READ_ALLOTMENT (R154). -/
def allotmentBytes (r : AllotmentReport) : List Byte :=
  bytesOf 2 r.quantity ++ optByte r.entry ++ bytesOf 1 r.limit ++ bytesOf 2 r.sold ++ bytesOf 2 r.own ++
  r.holdings.flatMap (bytesOf 2) ++ bytesOf 4 r.total ++ bytesOf 2 r.remaining ++ flagByte r.owed ++ bytesOf 1 r.echoes ++
  listBytes (fun e => bytesOf 1 e.1 ++ bytesOf 2 e.2.1 ++ bytesOf 2 e.2.2.1 ++ bytesOf 2 e.2.2.2) r.slots

/-- A response's body as bytes (R189, R190). The line byte of a cancelled override of a basket kind is 0 (log entry 8). -/
def bodyBytes (b : Body) : List Byte :=
  match b with
  | .none => []
  | .configured n fromStraps => bytesOf 1 n ++ bytesOf 1 (stationSourceNumber fromStraps)
  | .restarted day n => bytesOf 1 day.ctorIdx ++ bytesOf 1 n
  | .status r => statusBytes r
  | .loadBegun t => halfBytes t
  | .promoLoaded n count => bytesOf 1 n ++ bytesOf 2 count
  | .staffLoaded count => bytesOf 1 count
  | .loadEnded t entries staff allots => halfBytes t ++ bytesOf 2 entries ++ bytesOf 1 staff ++ bytesOf 1 allots
  | .failingEntry n => bytesOf 1 n
  | .failingStaff n position => bytesOf 2 n ++ bytesOf 1 position
  | .dayNumber d => halfBytes d
  | .window first last => bytesOf 1 first ++ bytesOf 1 last
  | .timeBand n => bytesOf 1 n
  | .signedOn n lal => bytesOf 2 n ++ bytesOf 1 lal
  | .signedOff popped withdrawn => bytesOf 1 popped ++ bytesOf 2 withdrawn
  | .elevated depth lal => bytesOf 1 depth ++ bytesOf 1 lal
  | .heldApplied depth lal r => bytesOf 1 depth ++ bytesOf 1 lal ++ appliedBytes r
  | .stillHeld depth lal gate reduction => bytesOf 1 depth ++ bytesOf 1 lal ++ bytesOf 1 gate ++ bytesOf 4 reduction
  | .dropped depth lal withdrawn => bytesOf 1 depth ++ bytesOf 1 lal ++ bytesOf 2 withdrawn
  | .slot i => bytesOf 1 i.val
  | .slotRevision i r => bytesOf 1 i.val ++ halfBytes r
  | .lineRevision n r => bytesOf 1 n ++ halfBytes r
  | .couponAdded position count r => bytesOf 1 position ++ bytesOf 1 count ++ halfBytes r
  | .couponsLeft count r => bytesOf 1 count ++ halfBytes r
  | .revision r => halfBytes r
  | .applied r => appliedBytes r
  | .heldForAuthority gate reduction => bytesOf 1 gate ++ bytesOf 4 reduction
  | .cancelled kind line => bytesOf 1 kind ++ bytesOf 1 (line.getD 0)
  | .total i m => bytesOf 1 i.val ++ summaryBytes m
  | .settled m => summaryBytes m
  | .line l r current => lineBytes l ++ halfBytes r ++ flagByte current
  | .adjustments r => adjustmentsBytes r
  | .roster r => rosterBytes r
  | .allotment r => allotmentBytes r

/-- A record with its 2-byte length in front, which counts the whole record (R190). -/
def withLength (bs : List Byte) : List Byte := bytesOf 2 (bs.length + 2) ++ bs

/-- A response record as bytes (R190). -/
def Response.bytes (r : Response) : List Byte :=
  withLength ([0xE0, r.tag] ++ bytesOf 1 r.status.ctorIdx ++ bytesOf 1 (detailNumber r.detail) ++ bodyBytes r.body)

/-- A notice's kind, in the order of the notice table (R187, R189). -/
def noticeKind (n : Notice) : Nat :=
  match n with
  | .laneState _ _ => 1
  | .stationConflict _ _ => 2
  | .peerForeign _ _ _ => 3
  | .joinComplete _ _ _ => 4
  | .overrideWithdrawn _ _ _ _ => 5
  | .elevationExpired _ _ => 6

/-- A notice's body (R187). The kind of the frame that revealed a shared number is sent as the kind byte of that frame, its code of R117,
and not as a number from 0 (log entry 46). In OVERRIDE_WITHDRAWN the number of overrides withdrawn (R98) stands apart from the count byte
of the slot list: the model's choice (log entry 8). -/
def noticeBody (n : Notice) : List Byte :=
  match n with
  | .laneState faulted lost => bytesOf 1 (if faulted then 3 else 1) ++ flagByte lost
  | .stationConflict n kind => bytesOf 1 n ++ [kind]
  | .peerForeign n day tag => bytesOf 1 n ++ halfBytes day ++ halfBytes tag
  | .joinComplete day present holdings => halfBytes day ++ bytesOf 1 present ++ bytesOf 4 holdings
  | .overrideWithdrawn depth staff count slots =>
    bytesOf 1 depth ++ bytesOf 2 staff ++ bytesOf 2 count ++ listBytes (fun i => bytesOf 1 i.val) slots
  | .elevationExpired depth staff => bytesOf 1 depth ++ bytesOf 2 staff

/-- A notice record as bytes, with its notices-lost mark (R187, R190). -/
def noticeBytes (n : Notice) (mark : Bool) : List Byte :=
  withLength ([0xE1] ++ bytesOf 1 (noticeKind n) ++ flagByte mark ++ noticeBody n)

/-- What a read shifts out after the status byte when `clocked` bytes follow: the record, then zeros (R181). -/
def shiftOut (clocked : Nat) (record : List Byte) : List Byte :=
  record.take clocked ++ List.replicate (clocked - record.length) 0

end Sys2Proof.Machine
end

