-- ==== Sys2Proof/Machine/Link.lean ====
section
/-!
DEFINITION. Power-on, reset and the transfers of the till link that carry no request (R178, R181 to R183, R187).
-/

namespace Sys2Proof.Machine

/-- POWER_ON: the supply reaches its operating level, or RSTN is released, with the strap pins reading `straps`. Every
block takes its values after RESTART full, the restarted flag is set and the time base starts at 0 (R178). -/
def execPowerOn (straps : BitVec 5) (s : State) : Result :=
  .next (State.afterPowerOn straps s.dueChoices s.pending)

/-- RESET_ASSERTED: the part drives neither LC nor LD, does not drive TSDO and holds TATN released, until power-on (R178). -/
def execResetAsserted (s : State) : Result :=
  .next { s with inReset := true, tlp := { s.tlp with tsdo := [] } }

/-- POLL: a transfer of the status byte alone (R181, R182). -/
def execPoll (s : State) : Result := whenRunning s fun s => s.transfer []

/-- What a read of an empty queue shifts out: a record of length 0 (R181, R190). -/
def emptyRecord : List Byte := [0, 0]

/-- The head response has left its queue: its request is no longer outstanding, and one entry of its tag leaves (R181, R183). -/
def State.popResponse (s : State) : State :=
  match s.tlp.responses with
  | [] => s
  | r :: rest => { s with tlp := { s.tlp with responses := rest, tags := s.tlp.tags.erase r.tag } }

/-- READ_RESPONSE: `clocked` bytes follow the status byte. The head response is shifted out, and leaves when every byte of it was
clocked (R181). -/
def execReadResponse (clocked : Nat) (s : State) : Result :=
  whenRunning s fun s =>
    match s.tlp.responses with
    | [] => s.transfer (shiftOut clocked emptyRecord)
    | r :: _ =>
      let read := s.transfer (shiftOut clocked r.bytes)
      if r.bytes.length ≤ clocked then read.popResponse else read

/-- The head notice has left its queue after a whole read; one that carried the mark clears the notices-lost flag (R181, R187). -/
def State.popNotice (s : State) (mark : Bool) : State :=
  { s with tlp := { s.tlp with notices := s.tlp.notices.drop 1, noticesLost := s.tlp.noticesLost && !mark } }

/-- READ_NOTICE: `clocked` bytes follow the status byte; `beganBeforeLoss` says that the read began before the overflow that set the
notices-lost flag, and so shows and carries it clear. Only the read under way at the overflow can be such a read, so one that follows
the end of another transfer cannot (R190, log entry 19). The head notice is shifted out with its mark, and leaves when every byte
of it was clocked (R181, R187). -/
def execReadNotice (clocked : Nat) (beganBeforeLoss : Bool) (s : State) : Result :=
  whenRunning s fun s =>
    let mark := s.tlp.noticesLost && !(beganBeforeLoss && s.tlp.lossUnseen)
    let seen : State := { s with tlp := { s.tlp with noticesLost := mark } }
    let after (out : List Byte) : State :=
      { s.transfer out with tlp := { (s.transfer out).tlp with tsdo := seen.statusByte :: out } }
    match s.tlp.notices with
    | [] => after (shiftOut clocked emptyRecord)
    | n :: _ =>
      let read := after (shiftOut clocked (noticeBytes n mark))
      if (noticeBytes n mark).length ≤ clocked then read.popNotice mark else read

/-- The request type a written record names, when its header arrived. -/
def writtenType (bs : List Byte) : Nat := (bs.getD 2 0).toNat

/-- A written record is discarded for its own sake: fewer bytes than a header, fewer than its length field gives, or a
length field below 4 (R183). -/
def badRecord (bs : List Byte) : Bool :=
  decide (bs.length < 4) || decide (bs.length < numberOf (bs.take 2)) || decide (numberOf (bs.take 2) < 4)

/-- A request type the manual defines: 0x01 to 0x26 (R189). -/
def definedType (n : Nat) : Bool := decide (1 ≤ n) && decide (n ≤ 0x26)

/-- WRITE_DISCARDED: a WRITE transfer of a record that is discarded unanswered, as R183 gives. A whole record of an undefined type,
which no other command carries, is taken when the ready flag is set, and refused with BAD_REQUEST (R185). A whole record of a
defined type is its own command's, unless the ready flag is clear and it is no RESTART (log entry 5). -/
def execWriteDiscarded (written : List Byte) (s : State) : Result :=
  whenRunning s fun s =>
    let tag := written.getD 3 0
    if badRecord written then s.transfer []
    else if !s.ready then
      if writtenType written = 2 then s else s.transfer []
    else if definedType (writtenType written) then s
    else ((s.transfer []).outstanding tag).respond tag
      (if s.tlp.tags.contains tag then refusalNamed .badRequest .tagInUse else refusal .badRequest)

end Sys2Proof.Machine
end

