-- ==== Sys2Proof/Machine/ScanSteps.lean ====
section
/-!
DEFINITION. The steps of a scan as events of the engine, and the scan's completion (R51, R52, R56, R57, R61, R62, R64, R65, R81).
The scan position names the step about to be taken; a step whose position it is not leaves the state as it is (log entry 5).
-/

namespace Sys2Proof.Machine

/-- A scan that has taken a step: its working record, and the position of the next step. -/
def State.advance (s : State) (sc : Scan) (p : Position) : State :=
  { s with eve := { s.eve with scan := some sc, position := p } }

/-- The scan in progress, at the position that the step needs. -/
def onScan (here : Position → Bool) (k : Scan → State) (s : State) : State :=
  match s.eve.scan with
  | none => s
  | some sc => if here s.eve.position then k sc else s

/-- STAGE_A (R51, R67, R68). -/
def execStageA (s : State) : Result :=
  whenRunning s fun s =>
    onScan (fun p => p == .a) (fun sc => s.advance (stageAScan sc) (.visit .b sc.first)) s

/-- The configured lane class as a guard term reads it (R31). -/
def State.laneFigure (s : State) : Nat := (s.stc.config.map (fun c => c.laneClass.number)).getD 0

/-- The units of allotment `a` that the scanned basket holds as they stand (R61). -/
def State.heldBy (s : State) (i : Fin 4) (a : Nat) : Nat := heldIn (s.bst.get i) a

/-- A visit to entry `n` in stage `st`: an empty entry, or one that does not apply, has no effect (R52). -/
def visitEntry (s : State) (sc : Scan) (st : VisitStage) (n : Nat) : Scan :=
  match tableGet n s.ptb.entries with
  | none => sc
  | some e => if entryApplies sc s.laneFigure st e then applyEntry sc n e (s.heldBy sc.slot) else sc

/-- ENTRY_VISIT: one visit to the entry that the position names (R52 to R55, R57). -/
def execEntryVisit (s : State) : Result :=
  whenRunning s fun s =>
    match s.eve.scan, s.eve.position with
    | some sc, .visit st n => s.advance (visitEntry s sc st n) (nextPosition st n sc)
    | _, _ => s

/-- STAGE_E (R56, R78). -/
def execStageE (s : State) : Result :=
  whenRunning s fun s =>
    onScan (fun p => p == .e) (fun sc => s.advance (stageEScan sc) (afterStageE sc)) s

/-- The tier rates of the table (R27). -/
def State.tierRates (s : State) : List Nat :=
  match s.ptb.header with
  | some h => h.rates
  | none => []

/-- STAGE_F_POINTS (R57, R79, R80). -/
def execStageFPoints (s : State) : Result :=
  whenRunning s fun s =>
    onScan (fun p => p == .f) (fun sc => s.advance (stageFScan s.tierRates sc) .g) s

/-- The redemption of stage G in points and in value, with the table's figures and the member's redeemed-today figure as they
stand (R81). -/
def State.redemption (s : State) (sc : Scan) : Nat × Nat :=
  match s.ptb.header with
  | none => (0, 0)
  | some h =>
    let blocks := redemptionBlocks sc h.cap h.blockSize h.blockValue
      ((sc.member.map (fun m => s.redeemedToday m.number)).getD 0)
    (blocks * h.blockSize, blocks * h.blockValue)

/-- What completion writes into the basket of the scan subject; the scan is over, its position stage G (R62, R64). -/
def State.publish (s : State) (sc : Scan) : State :=
  let r := s.redemption sc
  { s.updateBasket sc.slot (completeBasket sc r.1 r.2) with eve := { s.eve with scan := none, wanted := false, position := .g } }

/-- The scan that follows a completion: one starts when the wanted flag was set, unless a raise by the reconciliation has
started one already (R49, R62, R144). -/
def State.follow (s : State) (wanted : Bool) : State :=
  if wanted && s.eve.scan.isNone then s.startScan else s

/-- STAGE_G and completion: the basket is written, the wants are reconciled, a scan that is wanted starts, and last a waiting
TOTAL is examined (R62, R65, R81, R144). -/
def execStageG (s : State) : Result :=
  whenRunning s fun s =>
    onScan (fun p => p == .g) (fun sc =>
      let reconciled := ((Ev.start (s.publish sc)).reconcile sc.slot sc.wants).finish
      (reconciled.follow s.eve.wanted).examineTotal) s

end Sys2Proof.Machine
end

