-- ==== Sys2Proof/Machine/Station.lean ====
section
/-!
DEFINITION. The station requests: configuration, restart, STATUS, the table load, the trading day, the window and the time band
(Trading Day and Start-up; The Promotion Table; R188).
-/

namespace Sys2Proof.Machine

/-- A RANGE refusal that names a field by its position (R189). -/
def rangeField (position : Nat) : Reply := ⟨.range, .field position, .none⟩

/-! ## Configuration and restart -/

/-- STC after a CONFIGURE that is taken (R171, R172). -/
def Stc.configured (c : Stc) (f : ConfigFields) : Stc :=
  { c with
    day := .configured, config := some (configOf f),
    station := if f.station = 0 then c.strap.toNat + 1 else f.station.toNat,
    fromStraps := f.station == 0 }

/-- CONFIGURE (R171, R172). -/
def execConfigure (h : Hdr) (f : ConfigFields) (s : State) : Result :=
  takeRequest h (.configure h f) beforeLoad (fun s =>
    match configFault f with
    | some p => .refused (rangeField p)
    | none =>
      let stc := s.stc.configured f
      .answered { s with stc := stc } (okReply (.configured stc.station stc.fromStraps))) s

/-- The station day state after RESTART keep (R177). -/
def keptDay (config : Option Configuration) (load : LoadState) : DayState :=
  match config, load with
  | none, _ => .unconfigured
  | some _, .loaded => .ready
  | some _, _ => .configured

/-- STC after a RESTART, the time base running on (R169, R172, R177, R179). -/
def State.restartedStc (s : State) (keep : Bool) (straps : BitVec 5) : Stc :=
  if keep then
    { s.stc with day := keptDay s.stc.config s.ptb.load, dayNumber := 0, join := .idle,
                 windowFirst := 0, windowLast := 255, band := 0 }
  else { Stc.afterPowerOn straps with timeBase := s.stc.timeBase }

/-- The promotion table after a RESTART (R44, R177). -/
def State.restartedPtb (s : State) (keep : Bool) : Ptb :=
  if keep ∧ s.ptb.load = .loaded then s.ptb else .discarded

/-- The part after a RESTART of the given tag, its own response the only one waiting (R176). -/
def State.restart (s : State) (keep : Bool) (straps : BitVec 5) (tag : Byte) : State :=
  let stc := s.restartedStc keep straps
  { s with
    stc := stc, ptb := s.restartedPtb keep, bst := .allFree, eve := .afterReset, atc := .afterReset,
    cle := .cleared, pst := .cleared, lbp := .off,
    tlp := { s.tlp with
      responses := [⟨tag, .ok, .none, .restarted stc.day stc.station⟩], notices := [], tags := [tag],
      noticesLost := false } }

/-- RESTART: taken whatever the ready flag showed and whatever is outstanding, and refused only when malformed (R176, R183). A
malformed one written while the ready flag is clear is discarded (log entry 6). -/
def execRestart (h : Hdr) (keep : Bool) (straps : BitVec 5) (s : State) : Result :=
  whenRunning s fun s =>
    let written := s.transfer []
    if h.length.toNat < 4 then written
    else if wellFormedRecord (.restart h keep straps) then written.restart keep straps h.tag
    else if !s.ready then written
    else (written.outstanding h.tag).respond h.tag (refusal .badRequest)

/-! ## STATUS -/

/-- What STATUS reports, block by block, at one moment (R188). With an empty queue the head's attempts and age are 0, and a held override
of a basket kind has the line number 0 (log entry 8). -/
def State.report (s : State) : StatusReport :=
  { day := s.stc.day, station := s.stc.station, fromStraps := s.stc.fromStraps, strap := s.stc.strap,
    config := s.stc.config, dayNumber := s.stc.dayNumber, join := s.stc.join, timeBase := s.stc.timeBase,
    load := s.ptb.load, tableTag := s.tableTag, entryCount := s.ptb.entries.length,
    staffCount := s.ptb.staff.length,
    slotStates := slotNumbers.map (fun i => (s.bst.get i).map (·.state)), activeSlot := s.bst.active,
    scanning := s.eve.scan.isSome, scanSubject := s.eve.scan.map (·.slot), position := s.eve.position,
    wanted := s.eve.wanted, latchedRevision := s.eve.scan.map (·.revision), waitingTotal := s.eve.waitingTotal,
    operator := s.atc.operator.map (fun r => (r.staff, r.level)), lal := s.atc.lal,
    frames := s.atc.stack.reverse.map (fun f => (f.staff, f.level)), timer := s.atc.timer,
    heldOverride := s.atc.held.map (fun o => (o.request.kind, o.slot.val, o.request.line?.getD 0)),
    queueLength := s.cle.queue.length, headKind := s.cle.queue.head?.map (·.kind),
    headAttempts := (s.cle.queue.head?.map (·.attempts)).getD 0,
    headAge := (s.cle.queue.head?.map (fun r => s.ageOf r.enqueued)).getD 0,
    headInFlight := s.cle.inFlight == .head, announcement := s.cle.announcement.map (·.kind),
    owedCount := (allotmentNumbers.filter (fun a => s.cle.owed.getLsbD a)).length,
    echoCount := s.cle.echoes.length, presenceDue := s.presenceDue,
    portOn := s.lbp.bus.isSome, bus := s.lbp.bus, frame := s.lbp.frame, tenure := s.lbp.tenure,
    counters := s.lbp.counters, laneLost := s.lbp.laneLost,
    conflict := s.pst.conflict, ignored := s.pst.ignored, serialEvictions := s.pst.serialEvictions,
    memberEvictions := s.pst.memberEvictions,
    outstanding := s.tlp.tags.length, responses := s.tlp.responses.length, notices := s.tlp.notices.length,
    noticesLost := s.tlp.noticesLost }

/-- The lane counters, LANE_LOST and PST's counters cleared (R132, R155, R188). -/
def State.clearCounters (s : State) : State :=
  { s with
    lbp := { s.lbp with counters := .zero, laneLost := false },
    pst := { s.pst with ignored := 0, serialEvictions := 0, memberEvictions := 0 } }

/-- STATUS (R188). -/
def execStatus (h : Hdr) (clearCounters : Bool) (s : State) : Result :=
  takeRequest h (.status h clearCounters) always (fun s =>
    .answered (if clearCounters then s.clearCounters else s) (okReply (.status s.report))) s

/-! ## Loading the table -/

/-- LOAD_BEGIN (R36). -/
def execLoadBegin (h : Hdr) (f : HeaderFields) (s : State) : Result :=
  takeRequest h (.loadBegin h f) whileLoading (fun s =>
    match headerFault f with
    | some p => .refused (rangeField p)
    | none =>
      .answered
        { s with
          ptb := { Ptb.discarded with load := .loading, header := some (headerOf f) },
          stc := { s.stc with day := .configured } }
        (okReply (.loadBegun f.tableTag))) s

/-- The rule of a request that needs a load in progress: TABLE, detail NO_LOAD, without one (R35). -/
def whenLoading (k : Answer) (s : State) : Answer :=
  if s.ptb.load = .loading then k else .refused (refusalNamed .table .noLoad)

/-- LOAD_PROMO (R37). -/
def execLoadPromo (h : Hdr) (number : Byte) (f : PromoFields) (s : State) : Result :=
  takeRequest h (.loadPromo h number f) whileLoading (fun s =>
    let n := number.toNat
    let loaded (entries : Table PromoEntry) : Answer :=
      .answered { s with ptb := { s.ptb with entries := entries } } (okReply (.promoLoaded n entries.length))
    whenLoading (match f with
      | .undefinedKind _ => .refused (refusal .badRequest)
      | .empty => loaded (tableErase n s.ptb.entries)
      | .entry c p => match promoFault c p with
        | some position => .refused (rangeField position)
        | none => loaded (tablePut n (promoOf c p) s.ptb.entries)) s) s

/-- LOAD_STAFF (R38). -/
def execLoadStaff (h : Hdr) (staff : Half) (level : Byte) (limit : Quad) (s : State) : Result :=
  takeRequest h (.loadStaff h staff level limit) whileLoading (fun s =>
    whenLoading (
      if staff = 0 ∨ 3 < level.toNat ∨ Config.maxAmount < limit.toNat then .refused (refusal .range)
      else if Config.maxStaff ≤ s.ptb.staff.length then .refused (refusal .limit)
      else
        let list := s.ptb.staff ++ [⟨staff.toNat, level.toNat, limit.toNat⟩]
        .answered { s with ptb := { s.ptb with staff := list } } (okReply (.staffLoaded list.length))) s) s

/-- The allotment an ALLOTMENT_PRICE entry names. -/
def PromoEntry.allotment? (e : PromoEntry) : Option Nat :=
  match e.kind with
  | .allotmentPrice a _ => some a
  | _ => none

/-- The class a COUPON entry names. -/
def PromoEntry.couponClass? (e : PromoEntry) : Option Nat :=
  match e.kind with
  | .coupon c _ _ => some c
  | _ => none

/-- The first entry whose key a lower-numbered entry already has (R39, checks 2 and 4). -/
def firstRepeat (key : PromoEntry → Option Nat) (seen : List Nat) : Table PromoEntry → Option Nat
  | [] => none
  | (n, e) :: t => match key e with
    | none => firstRepeat key seen t
    | some k => if seen.contains k then some n else firstRepeat key (k :: seen) t

/-- The quantity a header gives an allotment (R28). -/
def Header.quantity (h : Header) (a : Nat) : Nat := h.quantities.getD a 0

/-- The first entry that names an allotment of quantity 0 (R39, check 1). -/
def undefinedAllot (h : Header) (es : Table PromoEntry) : Option Nat :=
  (es.find? (fun e => match e.2.allotment? with
    | some a => h.quantity a == 0
    | none => false)).map (·.1)

/-- The kinds on which group 0 is valid (R29). -/
def PromoKind.basketLevel (k : PromoKind) : Bool :=
  match k with
  | .amountOff _ _ | .coupon _ _ _ => true
  | _ => false

/-- The first entry of another kind with group 0 (R39, check 3). -/
def groupZero (es : Table PromoEntry) : Option Nat :=
  (es.find? (fun e => e.2.group == 0 && !e.2.kind.basketLevel)).map (·.1)

/-- The first staff record whose number stands earlier in the list, with its place from 1 (R39, check 5). -/
def staffRepeat (seen : List Nat) (place : Nat) : List StaffRecord → Option (Nat × Nat)
  | [] => none
  | r :: t => if seen.contains r.staff then some (r.staff, place) else staffRepeat (r.staff :: seen) (place + 1) t

/-- A failed check of LOAD_END, with the entry that fails it (R39). -/
def tableFailure (d : DetailName) (entry : Nat) : Reply := ⟨.table, .named d, .failingEntry entry⟩

/-- The first check of R39 that fails. -/
def loadFailure (h : Header) (p : Ptb) : Option Reply :=
  match undefinedAllot h p.entries with
  | some n => some (tableFailure .allotUndefined n)
  | none => match firstRepeat PromoEntry.allotment? [] p.entries with
    | some n => some (tableFailure .allotShared n)
    | none => match groupZero p.entries with
      | some n => some (tableFailure .groupZero n)
      | none => match firstRepeat PromoEntry.couponClass? [] p.entries with
        | some n => some (tableFailure .classShared n)
        | none => (staffRepeat [] 1 p.staff).map (fun r => ⟨.table, .named .staffDuplicate, .failingStaff r.1 r.2⟩)

/-- The definition of allotment `a` (R28). -/
def allotDef (h : Header) (es : Table PromoEntry) (a : Nat) : AllotDef :=
  let entry := es.find? (fun e => e.2.allotment? == some a)
  { quantity := h.quantity a, entry := entry.map (·.1), limit := (entry.map (·.2.limit)).getD 0 }

/-- The allotment definitions a successful LOAD_END forms: those of quantity above 0 (R28). -/
def allotDefs (h : Header) (es : Table PromoEntry) : Table AllotDef :=
  (allotmentNumbers.filter (fun a => h.quantity a != 0)).map (fun a => (a, allotDef h es a))

/-- LOAD_END (R39, R40). -/
def execLoadEnd (h : Hdr) (s : State) : Result :=
  takeRequest h (.loadEnd h) whileLoading (fun s =>
    whenLoading (match s.ptb.header with
      | none => .refused (refusalNamed .table .noLoad)
      | some hd => match loadFailure hd s.ptb with
        | some r => .refused r
        | none =>
          let allots := allotDefs hd s.ptb.entries
          .answered
            { s with ptb := { s.ptb with load := .loaded, allots := allots }, stc := { s.stc with day := .ready } }
            (okReply (.loadEnded hd.tableTag s.ptb.entries.length s.ptb.staff.length allots.length))) s) s

/-! ## The trading day -/

/-- PST with its four tables cleared, the station-conflict flag and the counters kept (R155). -/
def Pst.clearTables (p : Pst) : Pst :=
  { p with roster := [], holdings := [], serials := [], members := [] }

/-- The station after a DAY_OPEN that is taken (R118, R134, R151, R173, R174). -/
def State.openDay (s : State) (day : Half) : State :=
  let opened : State := { s with
    stc := { s.stc with day := .joining, dayNumber := day, join := .waiting },
    pst := s.pst.clearTables,
    cle := { Cle.cleared with presence := some 0 },
    lbp := { s.lbp with bus := some .busy, quiet := false, closing := false, frame := .none, tenure := 0 } }
  if s.pst.conflict then opened.startJoinWindow else opened.enqueue .syncAsk

/-- DAY_OPEN (R173). -/
def execDayOpen (h : Hdr) (day : Half) (s : State) : Result :=
  takeRequest h (.dayOpen h day) whenReady (fun s =>
    if day = 0 then .refused (refusal .range)
    else .answered (s.openDay day) (okReply (.dayNumber day))) s

/-- Every PURGE_STATION whose record a DAY_CLOSE removes is answered LANE_DOWN (R153, R175). -/
def State.answerPurges (s : State) : State :=
  s.cle.queue.foldl (fun s r => answerPurge r.kind (refusal .laneDown) s) s

/-- The port at DAY_CLOSE: OFF, but for a frame being sent, which completes first (R133). -/
def State.closePort (s : State) : State :=
  if s.lbp.frame.isSending then { s with lbp := { s.lbp with closing := true } } else s.portOff

/-- The station after a DAY_CLOSE that is taken (R134, R155, R175). -/
def State.closeDay (s : State) : State :=
  let closed := s.answerPurges.closePort
  { closed with
    stc := { closed.stc with day := .ready, join := .idle },
    cle := .cleared,
    pst := closed.pst.clearTables }

/-- DAY_CLOSE (R175). -/
def execDayClose (h : Hdr) (s : State) : Result :=
  takeRequest h (.dayClose h) whileOpen (fun s =>
    if slotNumbers.any (fun i => (s.bst.get i).isSome) then .refused (refusal .basketState)
    else .answered s.closeDay (okReply (.dayNumber s.stc.dayNumber))) s

/-! ## The window and the time band -/

/-- SET_WINDOW (R42). -/
def execSetWindow (h : Hdr) (first last : Byte) (s : State) : Result :=
  takeRequest h (.setWindow h first last) readyOrTrading (fun s =>
    .answered
      { s with stc := { s.stc with windowFirst := first.toNat, windowLast := last.toNat } }.triggerActive
      (okReply (.window first.toNat last.toNat))) s

/-- SET_TIME_BAND (R43). -/
def execSetTimeBand (h : Hdr) (band : Byte) (s : State) : Result :=
  takeRequest h (.setTimeBand h band) readyOrTrading (fun s =>
    if 7 < band.toNat then .refused (refusal .range)
    else .answered { s with stc := { s.stc with band := band.toNat } }.triggerActive (okReply (.timeBand band.toNat))) s

end Sys2Proof.Machine
end

