-- ==== Sys2Proof/Machine/Dispatch.lean ====
section
/-! DEFINITION. The meaning of every command: one arm per row of spec/opcode_table.json. -/

namespace Sys2Proof.Machine

/-- What a command does to everything but the queue of commands that wait. -/
def exec (i : Instr) (s : State) : Host.Outcome State Fault Refusal :=
  match i with
  | .powerOn straps => Sys2Proof.Machine.execPowerOn straps s
  | .resetAsserted => Sys2Proof.Machine.execResetAsserted s
  | .poll => Sys2Proof.Machine.execPoll s
  | .readResponse clocked => Sys2Proof.Machine.execReadResponse clocked s
  | .readNotice clocked beganBeforeLoss => Sys2Proof.Machine.execReadNotice clocked beganBeforeLoss s
  | .writeDiscarded written => Sys2Proof.Machine.execWriteDiscarded written s
  | .configure h f => Sys2Proof.Machine.execConfigure h f s
  | .restart h keep straps => Sys2Proof.Machine.execRestart h keep straps s
  | .status h clearCounters => Sys2Proof.Machine.execStatus h clearCounters s
  | .loadBegin h f => Sys2Proof.Machine.execLoadBegin h f s
  | .loadPromo h number f => Sys2Proof.Machine.execLoadPromo h number f s
  | .loadStaff h staff level limit => Sys2Proof.Machine.execLoadStaff h staff level limit s
  | .loadEnd h => Sys2Proof.Machine.execLoadEnd h s
  | .dayOpen h day => Sys2Proof.Machine.execDayOpen h day s
  | .dayClose h => Sys2Proof.Machine.execDayClose h s
  | .setWindow h first last => Sys2Proof.Machine.execSetWindow h first last s
  | .setTimeBand h band => Sys2Proof.Machine.execSetTimeBand h band s
  | .signOn h staff => Sys2Proof.Machine.execSignOn h staff s
  | .signOff h => Sys2Proof.Machine.execSignOff h s
  | .authorise h staff => Sys2Proof.Machine.execAuthorise h staff s
  | .dropAuthority h => Sys2Proof.Machine.execDropAuthority h s
  | .elevationExpiry => Sys2Proof.Machine.execElevationExpiry s
  | .openBasket h => Sys2Proof.Machine.execOpenBasket h s
  | .park h => Sys2Proof.Machine.execPark h s
  | .recall h slot => Sys2Proof.Machine.execRecall h slot s
  | .addLine h item measure qty price eligible groups => Sys2Proof.Machine.execAddLine h item measure qty price eligible groups s
  | .changeQty h line qty => Sys2Proof.Machine.execChangeQty h line qty s
  | .voidLine h line => Sys2Proof.Machine.execVoidLine h line s
  | .presentCoupon h cls serial => Sys2Proof.Machine.execPresentCoupon h cls serial s
  | .withdrawCoupon h cls serial => Sys2Proof.Machine.execWithdrawCoupon h cls serial s
  | .setMember h member tier balance => Sys2Proof.Machine.execSetMember h member tier balance s
  | .clearMember h => Sys2Proof.Machine.execClearMember h s
  | .redeemPoints h points => Sys2Proof.Machine.execRedeemPoints h points s
  | .override h kind form line value => Sys2Proof.Machine.execOverride h kind form line value s
  | .cancelOverride h => Sys2Proof.Machine.execCancelOverride h s
  | .total h => Sys2Proof.Machine.execTotal h s
  | .finalise h => Sys2Proof.Machine.execFinalise h s
  | .finaliseF2 => Sys2Proof.Machine.execFinaliseF2 s
  | .finaliseF3 => Sys2Proof.Machine.execFinaliseF3 s
  | .finaliseF4 => Sys2Proof.Machine.execFinaliseF4 s
  | .reopen h => Sys2Proof.Machine.execReopen h s
  | .close h => Sys2Proof.Machine.execClose h s
  | .voidBasket h slot => Sys2Proof.Machine.execVoidBasket h slot s
  | .readLine h line => Sys2Proof.Machine.execReadLine h line s
  | .readAdjustments h => Sys2Proof.Machine.execReadAdjustments h s
  | .readRoster h => Sys2Proof.Machine.execReadRoster h s
  | .readAllotment h allotment => Sys2Proof.Machine.execReadAllotment h allotment s
  | .purgeStation h target => Sys2Proof.Machine.execPurgeStation h target s
  | .stageA => Sys2Proof.Machine.execStageA s
  | .entryVisit => Sys2Proof.Machine.execEntryVisit s
  | .stageE => Sys2Proof.Machine.execStageE s
  | .stageFPoints => Sys2Proof.Machine.execStageFPoints s
  | .stageG => Sys2Proof.Machine.execStageG s
  | .busIdle => Sys2Proof.Machine.execBusIdle s
  | .frameBegin => Sys2Proof.Machine.execFrameBegin s
  | .arbitrationLoss => Sys2Proof.Machine.execArbitrationLoss s
  | .collisionAbort => Sys2Proof.Machine.execCollisionAbort s
  | .frameSent declineHigh conflictHigh => Sys2Proof.Machine.execFrameSent declineHigh conflictHigh s
  | .frameReceived bytes late => Sys2Proof.Machine.execFrameReceived bytes late s
  | .stretchLimitExpiry => Sys2Proof.Machine.execStretchLimitExpiry s
  | .verdictReady => Sys2Proof.Machine.execVerdictReady s
  | .frameSlotsHeard declineHigh conflictHigh => Sys2Proof.Machine.execFrameSlotsHeard declineHigh conflictHigh s
  | .truncatedFrame => Sys2Proof.Machine.execTruncatedFrame s
  | .hangDetected lines => Sys2Proof.Machine.execHangDetected lines s
  | .recoveryPulse ldHigh => Sys2Proof.Machine.execRecoveryPulse ldHigh s
  | .faultedRecheck linesHigh => Sys2Proof.Machine.execFaultedRecheck linesHigh s
  | .claimAgeExpiry target => Sys2Proof.Machine.execClaimAgeExpiry target s
  | .presenceDue => Sys2Proof.Machine.execPresenceDue s
  | .rosterSilent station => Sys2Proof.Machine.execRosterSilent station s
  | .joinWindowExpiry => Sys2Proof.Machine.execJoinWindowExpiry s
  | .startSeen isStart => Sys2Proof.Machine.execStartSeen isStart s
  | .recoveryLcHeldLow => Sys2Proof.Machine.execRecoveryLcHeldLow s

end Sys2Proof.Machine
end

