-- ==== Sys2Proof/WellFormed.lean ====
section
/-!
DEFINITION. When a command is well formed: a request's record passes step 1 of R185 and its lists are no longer than their
counts; an event names what exists. The meanings refuse an ill-formed record with BAD_REQUEST.
-/

namespace Sys2Proof

/-- A command is well formed (R185, step 1). -/
def Instr.wellFormed (c : Instr) : Bool := Machine.wellFormedRecord c

end Sys2Proof
end

