-- ==== Sys2Proof/Safety.lean ====
section
/-!
DEFINITION. The laws that the manual states of the whole part, as decidable checks of a state, and the words in which claims about
requests, baskets, tables, scans, records and peers are put, written from the rules and not from the meanings.
-/

namespace Sys2Proof.Machine

/-! ## The laws -/

/-- The law of the slots: at most one slot is in a state other than FREE and PARKED (R2). -/
def State.slotsLaw (s : State) : Bool :=
  decide ((slotNumbers.filter (fun i => slotActive (s.bst.get i))).length ≤ 1)

/-- The basket of slot `i` is HELD. -/
def State.isHeld (s : State) (i : Fin 4) : Bool :=
  match s.bst.get i with
  | some b => b.state == .held
  | none => false

/-- The law of the held override: a basket is HELD exactly when a held override exists, and it is that basket's (R3). -/
def State.heldLaw (s : State) : Bool :=
  slotNumbers.all (fun i => s.isHeld i == (s.atc.held.map (·.slot) == some i))

/-- No two elements are equal. -/
def allDistinct {α : Type} [BEq α] : List α → Bool
  | [] => true
  | a :: t => !t.contains a && allDistinct t

/-- The law of the lists of one basket: at most 200 line records, numbered 1, 2, 3 and so on, and at most 8 coupons (R19), each coupon
a record of its own (R102). -/
def Basket.listsLaw (b : Basket) : Bool :=
  decide (b.lines.length ≤ Config.maxLines) && decide (b.coupons.length ≤ Config.maxCoupons) &&
  (b.lines.map (·.number) == (List.range b.lines.length).map (· + 1)) &&
  allDistinct (b.coupons.map (·.id)) && b.coupons.all (fun c => decide (c.id < b.nextCoupon))

/-- The law of the lists, of every basket (R19). -/
def State.listsLaw (s : State) : Bool :=
  slotNumbers.all (fun i => match s.bst.get i with
    | some b => b.listsLaw
    | none => true)

/-- The level of the acting person under an operator of level `op`: the top frame's, or the operator's (R85). -/
def actingLevel (op : Nat) (stack : List ElevFrame) : Nat :=
  match stack with
  | [] => op
  | f :: _ => f.level

/-- Each frame's level is numerically below the level saved in it, which is that of the acting person below it (R85, R94). -/
def chainLaw (op : Nat) : List ElevFrame → Bool
  | [] => true
  | f :: rest => decide (f.level < f.savedLal) && f.savedLal == actingLevel op rest && chainLaw op rest

/-- The law of authority: with an operator the LAL is the acting person's level, the stack holds at most three frames, each at a
gain, and the timer runs exactly while there is a frame; with no operator there is no LAL, frame or timer (R84, R85, R100). -/
def Atc.law (a : Atc) : Bool :=
  match a.operator with
  | some r =>
    a.lal == some (actingLevel r.level a.stack) && decide (a.stack.length ≤ Config.maxElevation) &&
    chainLaw r.level a.stack && (a.timer.isSome == !a.stack.isEmpty)
  | none => a.lal.isNone && a.stack.isEmpty && a.timer.isNone

/-- The law of the queue: it never holds more than 16 records (R135), and holds none while the station is off the day (R134). -/
def State.queueLaw (s : State) : Bool :=
  decide (s.cle.queue.length ≤ Config.maxQueue) &&
  (s.cle.queue.isEmpty || s.stc.day == .joining || s.stc.day == .trading)

/-- The laws of the station's day: a configuration outside UNCONFIGURED alone, a LOADED table in READY, JOINING and TRADING alone, a join
window in JOINING alone, and baskets in TRADING alone (R25, R26, R169, R170). -/
def State.dayLaw (s : State) : Bool :=
  (s.stc.config.isNone == (s.stc.day == .unconfigured)) &&
  ((s.ptb.load == .loaded) == (s.stc.day == .ready || s.stc.day == .joining || s.stc.day == .trading)) &&
  (s.ptb.header.isNone == (s.ptb.load == .empty)) &&
  ((s.stc.join != .idle) == (s.stc.day == .joining)) &&
  (s.stc.day == .trading || slotNumbers.all (fun i => (s.bst.get i).isNone)) &&
  decide (1 ≤ s.stc.station) && decide (s.stc.station ≤ 32)

/-- The law of the engine: a scan is of the active basket, in a state that is scanned, and a scan that has missed a change has another
wanted after it; an IDLE engine wants none, and the active basket it would scan is current (R2, R46 to R49, R62). -/
def State.engineLaw (s : State) : Bool :=
  match s.eve.scan with
  | some sc =>
    (s.bst.active == some sc.slot) && (s.eve.position != .none) &&
    (match s.bst.get sc.slot with
      | some b => b.state.scanned && (sc.revision == b.revision || s.eve.wanted)
      | none => false)
  | none =>
    !s.eve.wanted &&
    (match s.bst.active with
      | some i => (match s.bst.get i with
        | some b => !b.state.scanned || b.current
        | none => false)
      | none => true)

/-- The law of the port: it is ON in JOINING and TRADING and while a frame completes after DAY_CLOSE, a tenure of one to four
frames is held exactly while a frame is sent, frames are in hand in BUSY alone, recovery stops within nine pulses, and what CLE
has in flight is what LBP sends (R118, R127, R130, R133, R134, R136). -/
def State.portLaw (s : State) : Bool :=
  let sending := match s.lbp.frame with
    | .sending _ => true
    | _ => false
  (s.lbp.bus.isSome == (s.stc.day == .joining || s.stc.day == .trading || s.lbp.closing)) &&
  (!s.lbp.closing || (sending && s.stc.day != .joining && s.stc.day != .trading)) &&
  (s.lbp.frame == .none || s.lbp.bus == some .busy) &&
  (if sending then decide (1 ≤ s.lbp.tenure) && decide (s.lbp.tenure ≤ Config.maxTenure) else s.lbp.tenure == 0) &&
  ((s.cle.inFlight != .none) == (sending && !s.lbp.closing)) &&
  (s.cle.inFlight != .head || !s.cle.queue.isEmpty) &&
  (s.cle.inFlight != .announcement || s.cle.announcement.isSome) &&
  (match s.lbp.bus with
    | some (.hung n) => decide (n < Config.maxPulses)
    | _ => true)

/-- The laws of the peer tables: the serial set holds no pair twice and at most 1,024, the member table one entry a member and at
most 128 of at most 999,999 points; the counts and the roster are in their canonical form (R155, R157, R164, R165). -/
def Pst.law (p : Pst) : Bool :=
  allDistinct p.serials && decide (p.serials.length ≤ Config.maxSerials) &&
  allDistinct (p.members.map (·.1)) && decide (p.members.length ≤ Config.maxMembers) &&
  p.members.all (fun e => decide (e.2 ≤ Config.maxRedeemedToday)) &&
  countsWf p.holdings && tableWf p.roster

/-- The tables a station keeps in canonical form: entries, sold counts, and each basket's held units (R29, R134, R1). -/
def State.formLaw (s : State) : Bool :=
  tableWf s.ptb.entries && tableWf s.ptb.allots && countsWf s.cle.sold &&
  slotNumbers.all (fun i => match s.bst.get i with
    | some b => countsWf b.held
    | none => true)

/-- The tags of the requests that wait for their response: a waiting TOTAL, a FINALISE and the PURGE_STATIONs (R180). -/
def State.deferredTags (s : State) : List Byte :=
  s.eve.waitingTotal.toList ++
  slotNumbers.filterMap (fun i => match s.bst.get i with
    | some b => (match b.state with
      | .finalising _ tag => some tag
      | _ => none)
    | none => none) ++
  s.cle.queue.filterMap (fun r => match r.kind with
    | .purge _ tag => some tag
    | _ => none)

/-- The law of the link: at most 8 requests are outstanding and at most 4 notices wait, and the outstanding tags are those of the
responses that wait and of the requests that are deferred, each as often as it stands there (R180, R183). -/
def State.linkLaw (s : State) : Bool :=
  decide (s.tlp.tags.length ≤ Config.maxOutstanding) && decide (s.tlp.notices.length ≤ Config.maxNotices) &&
  s.tlp.tags.isPerm (s.tlp.responses.map (·.tag) ++ s.deferredTags)

/-- Every law together: what holds at reset and after every step. -/
def State.inv (s : State) : Bool :=
  s.slotsLaw && s.heldLaw && s.listsLaw && s.atc.law && s.queueLaw && s.dayLaw && s.engineLaw && s.portLaw && s.pst.law &&
  s.formLaw && s.linkLaw

/-! ## The words of claims about requests -/

/-- A request is taken and passes the first check: the part is not in reset, the ready flag is set, the record is well formed and its tag
is not outstanding (R182, R183, R185). -/
def Taken (h : Hdr) (c : Instr) (s : State) : Prop :=
  s.inReset = false ∧ s.tlp.tags.length < Config.maxOutstanding ∧ h.tag ∉ s.tlp.tags ∧ c.wellFormed = true

/-- The link after a request of header `h` is taken in `s` and its response waits: the transfer showed the status byte, the request is
outstanding, its tag is kept (R181 to R184). -/
def deferredLink (s : State) (h : Hdr) : Tlp :=
  { s.tlp with tags := s.tlp.tags ++ [h.tag], lossUnseen := false, restarted := false, tsdo := [s.statusByte] }

/-- The link after a request of header `h` is taken in `s` and answered at once. -/
def answeredLink (s : State) (h : Hdr) (st : Status) (d : Detail) (body : Body) : Tlp :=
  { deferredLink s h with responses := s.tlp.responses ++ [⟨h.tag, st, d, body⟩] }

/-- The link after a refusal that names no detail. -/
def refusedLink (s : State) (h : Hdr) (st : Status) : Tlp := answeredLink s h st .none .none

/-- A request is offered: its WRITE transfer begins with the ready flag set on a part that is not in reset, its header is whole and its
tag is free; the record may still be malformed (R183). -/
def Offered (h : Hdr) (s : State) : Prop :=
  s.inReset = false ∧ s.tlp.tags.length < Config.maxOutstanding ∧ h.tag ∉ s.tlp.tags ∧ 4 ≤ h.length.toNat

/-- The first three checks of R185 on a request that is offered: BAD_REQUEST, then NOT_READY outside the day states that take it, then
NO_OPERATOR when it needs an operator and none is signed on. -/
def FirstChecks (h : Hdr) (c : Instr) (days : List DayState) (operator : Bool) (s : State) : Prop :=
  (c.wellFormed = false → exec c s = .next { s with tlp := refusedLink s h .badRequest }) ∧
  (c.wellFormed = true → s.stc.day ∉ days → exec c s = .next { s with tlp := refusedLink s h .notReady }) ∧
  (c.wellFormed = true → s.stc.day ∈ days → operator = true → s.atc.operator = none →
    exec c s = .next { s with tlp := refusedLink s h .noOperator })

/-- Every day state. -/
def everyDay : List DayState := [.unconfigured, .configured, .ready, .joining, .trading]

/-- The requests other than RESTART: the header of the record, the day states that take it, and whether it needs an operator
(R170, R185). The events of the part's pins, bus and timers, and the other transfers, are no requests. -/
def requestOf (c : Instr) : Option (Hdr × List DayState × Bool) :=
  match c with
  | .configure h _ => some (h, [.unconfigured, .configured], false)
  | .status h _ => some (h, everyDay, false)
  | .loadBegin h _ | .loadPromo h _ _ | .loadStaff h _ _ _ | .loadEnd h => some (h, [.configured, .ready], false)
  | .dayOpen h _ => some (h, [.ready], false)
  | .dayClose h => some (h, [.trading], false)
  | .setWindow h _ _ | .setTimeBand h _ => some (h, [.ready, .trading], false)
  | .signOn h _ => some (h, [.ready, .joining, .trading], false)
  | .signOff h | .authorise h _ | .dropAuthority h => some (h, everyDay, true)
  | .readRoster h | .readAllotment h _ => some (h, [.configured, .ready, .joining, .trading], false)
  | .purgeStation h _ => some (h, [.joining, .trading], true)
  | .openBasket h | .park h | .recall h _ | .addLine h _ _ _ _ _ _ | .changeQty h _ _ | .voidLine h _
  | .presentCoupon h _ _ | .withdrawCoupon h _ _ | .setMember h _ _ _ | .clearMember h | .redeemPoints h _
  | .override h _ _ _ _ | .cancelOverride h | .total h | .finalise h | .reopen h | .close h | .voidBasket h _
  | .readLine h _ | .readAdjustments h => some (h, [.trading], true)
  | .powerOn _ | .resetAsserted | .poll | .readResponse _ | .readNotice _ _ | .writeDiscarded _ | .restart _ _ _
  | .elevationExpiry | .finaliseF2 | .finaliseF3 | .finaliseF4 | .stageA | .entryVisit | .stageE | .stageFPoints | .stageG
  | .busIdle | .frameBegin | .arbitrationLoss | .collisionAbort | .frameSent _ _ | .frameReceived _ _
  | .stretchLimitExpiry | .verdictReady | .frameSlotsHeard _ _ | .truncatedFrame | .hangDetected _ | .recoveryPulse _
  | .faultedRecheck _ | .claimAgeExpiry _ | .presenceDue | .rosterSilent _ | .joinWindowExpiry | .startSeen _
  | .recoveryLcHeldLow => none

/-- The requests that change the contents of the active basket, which must be TRADING: the line, coupon, member and override
requests (R20 to R22, R89, R104, R105, R110 to R112). -/
def changesBasket (c : Instr) : Bool :=
  match c with
  | .addLine _ _ _ _ _ _ _ | .changeQty _ _ _ | .voidLine _ _ | .presentCoupon _ _ _ | .withdrawCoupon _ _ _
  | .setMember _ _ _ _ | .clearMember _ | .redeemPoints _ _ | .override _ _ _ _ _ => true
  | _ => false

/-- The requests that concern the active basket, and are refused with NO_BASKET when there is none (R4, R6, R8, R15 to R17, R20 to R23,
R65, R96, R115). -/
def needsBasket (c : Instr) : Bool :=
  changesBasket c || (match c with
    | .park _ | .cancelOverride _ | .total _ | .finalise _ | .reopen _ | .close _ | .readLine _ _ | .readAdjustments _ => true
    | .voidBasket _ slot => slot == 0xFF
    | _ => false)

/-! ## The words of claims about baskets -/

/-- The station trades and an operator is signed on: the day state and the operator that the basket requests need (R4). -/
def Serving (s : State) : Prop := s.stc.day = .trading ∧ s.atc.operator ≠ none

/-- Slot `i` is the active slot and holds basket `b` (R2). -/
def IsActive (s : State) (i : Fin 4) (b : Basket) : Prop := s.bst.active = some i ∧ s.bst.get i = some b

/-- The engine after a trigger, when the basket of the active slot `i` stands as `b`: from IDLE, or under the policy RESTART, a scan of
that basket starts with the station's window and band; under FOLLOW a scan in progress goes on and another is wanted
(R46 to R49). -/
def triggered (s : State) (i : Fin 4) (b : Basket) : Eve :=
  if s.eve.scan = none ∨ s.restartPolicy = .restart then
    { s.eve with scan := some (newScan i s.stc b), wanted := false, position := .a }
  else { s.eve with wanted := true }

/-- The state after a request has left basket `b` in the active slot `i` and the link as `link`: the basket's revision is one higher than in
`b`, and the raise has triggered the engine (R24, R46). -/
def afterChange (s : State) (i : Fin 4) (b : Basket) (link : Tlp) : State :=
  let raised := { b with revision := b.revision + 1 }
  { s with bst := s.bst.set i (some raised), eve := triggered s i raised, tlp := link }

/-- A basket after a pop that reaches it: the overrides that are presence-bound at a depth that `popped` picks are gone; a basket that lost
one has its withdrawal marker set and its revision raised by one, which in F4 takes finalisation back to F3 (R12, R24, R98). -/
def withdrawnAt (popped : Nat → Bool) (b : Basket) : Basket :=
  let goes (st : Stamp) : Bool := st.bound && popped st.depth
  let keep {α : Type} (o : Option (Applied α)) : Option (Applied α) := o.filter (fun a => !goes a.stamp)
  let lost : Bool := b.lines.any (fun l => l.override.any (fun a => goes a.stamp)) ||
    b.discount.any (fun a => goes a.stamp) || b.award.any (fun a => goes a.stamp)
  if lost && b.state != .settled then
    { b with
      lines := b.lines.map (fun l => { l with override := keep l.override }),
      discount := keep b.discount, award := keep b.award, withdrawn := true, revision := b.revision + 1,
      state := match b.state with
        | .finalising .f4 tag => .finalising .f3 tag
        | st => st }
  else b

/-- How many overrides of a basket a pop that reaches the depths `popped` withdraws: those that are presence-bound there, of its lines and
of the basket itself, unless it is SETTLED (R98). -/
def withdrawnCount (popped : Nat → Bool) (b : Basket) : Nat :=
  let goes {α : Type} (o : Option (Applied α)) : Bool := o.any (fun a => a.stamp.bound && popped a.stamp.depth)
  if b.state = .settled then 0
  else (b.lines.filter (fun l => goes l.override)).length + (if goes b.discount then 1 else 0) +
    (if goes b.award then 1 else 0)

/-- How many overrides of the four slots a pop that reaches the depths `popped` withdraws (R98). -/
def withdrawnInAll (popped : Nat → Bool) (s : State) : Nat :=
  ([0, 1, 2, 3].map (fun i => ((s.bst.get i).map (withdrawnCount popped)).getD 0)).sum

/-- The notice of a pop of depth `d`, whose frame is that of `staff`: one that gives the number withdrawn and the slots concerned, or none
when nothing is withdrawn (R98). -/
def withdrawalNotice (s : State) (d staff : Nat) : List Notice :=
  let count := withdrawnInAll (fun x => x == d) s
  if count = 0 then []
  else [.overrideWithdrawn d staff count
    ([0, 1, 2, 3].filter (fun i => ((s.bst.get i).map (withdrawnCount (fun x => x == d))).getD 0 != 0))]

/-- The link `t` has the notices of `l` with those of `posted` behind them, as far as 4 notices find room, and has the notices-lost
flag set when one of them found none (R187). -/
def Posted (l : Tlp) (posted : List Notice) (t : Tlp) : Prop :=
  t.notices = (l.notices ++ posted).take 4 ∧
  t.noticesLost = (l.noticesLost || decide (4 < (l.notices ++ posted).length))

/-- Every field of a table header lies in the range that R27 gives it. -/
def HeaderInRange (f : HeaderFields) : Prop :=
  f.tableTag ≠ 0 ∧ (1 ≤ f.cap.toNat ∧ f.cap.toNat ≤ 999999) ∧ (1 ≤ f.blockSize.toNat ∧ f.blockSize.toNat ≤ 10000) ∧
  (1 ≤ f.blockValue.toNat ∧ f.blockValue.toNat ≤ 10000) ∧ (∀ r ∈ f.rates, r.toNat ≤ 20) ∧
  (1 ≤ f.band1.toNat ∧ f.band1.toNat ≤ 10000) ∧ (f.band1.toNat ≤ f.band2.toNat ∧ f.band2.toNat ≤ 10000) ∧
  (∀ g ∈ [f.g1, f.g2, f.g3, f.gIncrease, f.gZero, f.gBasket, f.gPoints], g.toNat ≤ 3) ∧ f.threshold.toNat ≤ 99999999

/-- Every field of a promotion entry lies in the range that R29, R30 and R31 give it for its kind. A PERCENT value stands in the low two
bytes of its field (R189). -/
def PromoInRange (c : PromoCommon) (p : PromoParams) : Prop :=
  c.group.toNat ≤ 63 ∧ (∀ t ∈ c.terms, t.constant.toNat ≤ 99999999) ∧
  (match p with
    | .quantityBreak _ threshold price =>
      (1 ≤ threshold.toNat ∧ threshold.toNat ≤ 999999) ∧ price.toNat ≤ 9999999 ∧ c.limit = 0 ∧ c.skip = false
    | .multibuy k price => (2 ≤ k.toNat ∧ k.toNat ≤ 20) ∧ price.toNat ≤ 99999999 ∧ c.skip = false
    | .allotmentPrice a price =>
      a.toNat ≤ 31 ∧ price.toNat ≤ 9999999 ∧ (1 ≤ c.limit.toNat ∧ c.limit.toNat ≤ 99) ∧ c.skip = false
    | .percentOff rate spend =>
      (1 ≤ rate.toNat ∧ rate.toNat ≤ 10000) ∧ spend.toNat ≤ 99999999 ∧ c.limit = 0 ∧ c.skip = false
    | .amountOff threshold amount =>
      threshold.toNat ≤ 99999999 ∧ (1 ≤ amount.toNat ∧ amount.toNat ≤ 99999999) ∧ c.limit = 0
    | .coupon cls form value threshold =>
      (1 ≤ cls.toNat ∧ cls.toNat ≤ 255) ∧ threshold.toNat ≤ 99999999 ∧
      (if form = 0 then 1 ≤ value.toNat ∧ value.toNat ≤ 99999999
        else 1 ≤ value.toNat % 65536 ∧ value.toNat % 65536 ≤ 10000)
    | .pointsMultiplier factor => (2 ≤ factor.toNat ∧ factor.toNat ≤ 10) ∧ c.limit = 0 ∧ c.skip = false)

/-- What the checks of LOAD_END ask of a part-loaded table: no ALLOTMENT_PRICE entry names an allotment of quantity 0, no two name one
allotment, group 0 stands on AMOUNT_OFF and COUPON entries alone, no two COUPON entries share a class, and no two staff
records share a number (R39). -/
def SoundTable (h : Header) (p : Ptb) : Prop :=
  (∀ e ∈ p.entries, ∀ a special, e.2.kind = .allotmentPrice a special → h.quantities.getD a 0 ≠ 0) ∧
  p.entries.Pairwise (fun x y => ∀ a sx sy, x.2.kind = .allotmentPrice a sx → y.2.kind ≠ .allotmentPrice a sy) ∧
  (∀ e ∈ p.entries, e.2.group = 0 →
    (∃ t a, e.2.kind = .amountOff t a) ∨ ∃ c v t, e.2.kind = .coupon c v t) ∧
  p.entries.Pairwise (fun x y => ∀ c vx tx vy ty, x.2.kind = .coupon c vx tx → y.2.kind ≠ .coupon c vy ty) ∧
  (p.staff.map (·.staff)).Nodup

/-! ## The words of claims about a scan -/

/-- A line takes part in stages B to D for group `g`: it is LIVE, has no override and is in the group, which group 0 always is
(R29, R51, R53 to R55). -/
def partFor (g : Nat) (l : WLine) : Bool := l.live && l.override == none && (g == 0 || l.groups.contains g)

/-- The current unit price of a line: its tier price, or its base price with none (R71). -/
def unitPrice (l : WLine) : Nat := l.tier.getD l.base

/-- The free units of a line: of an EACH line those not consumed, of a measured line none that are counted (R71). -/
def unitsLeft (l : WLine) : Nat := if l.measure = .each then l.qty - l.consumedUnits else 0

/-- The free value of a line (R71). -/
def valueLeft (l : WLine) : Nat :=
  if l.measure = .each then unitsLeft l * unitPrice l else if l.consumedFlag then 0 else l.extended

/-- An adjustment whose parts fall on the lines in their order finds room: there are fewer than 64, and no line that has a part above 0
holds 8 shares already (R58, R59). -/
def RoomFor (sc : Scan) (parts : List Nat) : Prop :=
  sc.adjustments.length < 64 ∧ ∀ e ∈ sc.lines.zip parts, e.2 ≠ 0 → e.1.shares.length < 8

/-- The scan with one adjustment more, the next in its list, each line of a part above 0 gaining that share and losing it from its net
(R58, R59). -/
def adjusted (sc : Scan) (entry : Option Nat) (kind : AdjKind) (amount : Nat) (units : Option Nat) (coupon : Option (Nat × Nat))
    (parts : List Nat) : Scan :=
  let index := sc.adjustments.length + 1
  { sc with
    adjustments := sc.adjustments ++ [⟨index, entry, kind, amount, units, coupon⟩],
    lines := (sc.lines.zip parts).map (fun e =>
      if e.2 = 0 then e.1 else { e.1 with shares := e.1.shares ++ [(index, e.2)], net := e.1.net - e.2 }) }

/-- `after` is `sc` with an adjustment that found room, written on `base`, which is `sc` with what the adjustment prices or consumes; or
it is `sc` with the truncation mark set, when there was none (R58, R59). -/
def Writes (sc after base : Scan) (entry : Option Nat) (kind : AdjKind) (amount : Nat) (units : Option Nat)
    (coupon : Option (Nat × Nat)) (parts : List Nat) : Prop :=
  (RoomFor sc parts → after = adjusted base entry kind amount units coupon parts) ∧
  (¬ RoomFor sc parts → after = { sc with truncated := true })

/-- The weights of an entry of stage D: the nets of its participants, a line that a discount of stage C or D has reached being left out
under the skip-discounted flag (R55, R69). -/
def stageDWeights (sc : Scan) (e : PromoEntry) : List Nat :=
  let discounts (k : AdjKind) : Bool := k != .quantityBreak && k != .pointsMultiplier && k != .basketDiscount
  let reached (l : WLine) : Bool := l.shares.any (fun p => sc.adjustments.any (fun a => a.index == p.1 && discounts a.kind))
  sc.lines.map (fun l => if partFor e.group l && !(e.skip && reached l) then l.net else 0)

/-- What a QUANTITY_BREAK entry that applies does (R53, R70). -/
def TiersLines (n : Nat) (e : PromoEntry) (m : Measure) (threshold price : Nat) (sc after : Scan) : Prop :=
  let candidate (l : WLine) : Bool := partFor e.group l && l.measure == m && l.tier == none && decide (price < l.base)
  let qualifying := ((sc.lines.filter (fun l => partFor e.group l && l.measure == m)).map (·.qty)).sum
  let parts := sc.lines.map (fun l => if candidate l then l.extended - extendedAmount m price l.qty else 0)
  (qualifying < threshold ∨ parts.sum = 0 → after = sc) ∧
  (threshold ≤ qualifying → 0 < parts.sum → Writes sc after
    { sc with lines := sc.lines.map (fun l =>
        if candidate l then { l with tier := some price, extended := extendedAmount m price l.qty } else l) }
    (some n) .quantityBreak parts.sum none none parts)

/-- What a MULTIBUY entry that applies does. `units` lists the free units it draws on, each with its line's place and its price, dearest
first and, among equal prices, by line; of its blocks of `k`, the first `m` are the sets: whole, within the limit, and each dearer than
the set price, which the block after them is not (R54, R72, R73). -/
def FormsSets (n : Nat) (e : PromoEntry) (k price : Nat) (sc after : Scan) : Prop :=
  ∃ (units : List (Nat × Nat)) (m : Nat),
    units.Pairwise (fun u v => v.2 < u.2 ∨ (u.2 = v.2 ∧ u.1 ≤ v.1)) ∧
    (∀ u ∈ units, ∃ l, sc.lines[u.1]? = some l ∧ partFor e.group l = true ∧ u.2 = unitPrice l) ∧
    (∀ i l, sc.lines[i]? = some l → partFor e.group l = true → (units.filter (fun u => u.1 == i)).length = unitsLeft l) ∧
    (let block (j : Nat) : List (Nat × Nat) := (units.drop (k * j)).take k
     let isSet (j : Nat) : Prop :=
       (block j).length = k ∧ (e.limit = 0 ∨ j < e.limit) ∧ price < ((block j).map (·.2)).sum
     let cut (j : Nat) : Nat := ((block j).map (·.2)).sum - price
     let shared := (List.range m).flatMap (fun j => ((block j).map (·.1)).zip (apportion (cut j) ((block j).map (·.2))))
     let parts := (List.range sc.lines.length).map (fun i => ((shared.filter (fun p => p.1 == i)).map (·.2)).sum)
     (∀ j < m, isSet j) ∧ ¬ isSet m ∧
     (m = 0 → after = sc) ∧
     (0 < m → Writes sc after
       { sc with lines := sc.lines.zipIdx.map (fun l =>
           { l.1 with consumedUnits :=
               l.1.consumedUnits + ((units.take (k * m)).filter (fun u => u.1 == l.2)).length }) }
       (some n) .multibuy ((List.range m).map cut).sum (some (k * m)) none parts))

/-- What an ALLOTMENT_PRICE entry that applies does with `held` units of its allotment in the basket: it sets the want, and prices as many
of the wanted units as are held, the earliest line's first (R54, R61, R74). An entry skipped for room leaves the want as it was. -/
def PricesUnits (n : Nat) (e : PromoEntry) (a special held : Nat) (sc after : Scan) : Prop :=
  let free (l : WLine) : Nat := if partFor e.group l then unitsLeft l else 0
  let want := match sc.lines.filter (fun l => decide (0 < free l)) with
    | [] => 0
    | first :: _ => if unitPrice first ≤ special then 0 else min ((sc.lines.map free).sum) e.limit
  let before (i : Nat) : Nat := ((sc.lines.take i).map free).sum
  let counts := sc.lines.zipIdx.map (fun l => min (free l.1) (min want held - before l.2))
  let parts := (sc.lines.zip counts).map (fun c => c.2 * (unitPrice c.1 - special))
  ∃ wants, (∀ x, countGet x wants = if x = a then want else countGet x sc.wants) ∧
    (let wanting := { sc with wants := wants, provisional := sc.provisional || decide (held < want) }
     (parts.sum = 0 → after = wanting) ∧
     (0 < parts.sum → Writes sc after
       { wanting with lines := (sc.lines.zip counts).map (fun c => { c.1 with consumedUnits := c.1.consumedUnits + c.2 }) }
       (some n) .allotmentPrice parts.sum (some counts.sum) none parts))

/-- What a PERCENT_OFF entry that applies does (R54, R75). -/
def TakesPercent (n : Nat) (e : PromoEntry) (rate minimum : Nat) (sc after : Scan) : Prop :=
  let weights := sc.lines.map (fun l => if partFor e.group l then valueLeft l else 0)
  let discount := (weights.sum * rate + 5000) / 10000
  let units (l : WLine) : Nat := if l.measure = .each then unitsLeft l else if l.consumedFlag then 0 else 1
  (weights.sum < minimum ∨ weights.sum = 0 ∨ discount = 0 → after = sc) ∧
  (minimum ≤ weights.sum → 0 < weights.sum → 0 < discount → Writes sc after
    { sc with lines := sc.lines.map (fun l =>
        if partFor e.group l then
          (if l.measure = .each then { l with consumedUnits := l.qty } else { l with consumedFlag := true })
        else l) }
    (some n) .percentOff discount (some ((sc.lines.filter (partFor e.group)).map units).sum) none (apportion discount weights))

/-- What an AMOUNT_OFF entry that applies does (R55, R76). -/
def TakesAmount (n : Nat) (e : PromoEntry) (threshold amount : Nat) (sc after : Scan) : Prop :=
  let weights := stageDWeights sc e
  let discount := min amount weights.sum
  (weights.sum < threshold ∨ discount = 0 → after = sc) ∧
  (threshold ≤ weights.sum → 0 < discount →
    Writes sc after sc (some n) .amountOff discount none none (apportion discount weights))

/-- What the test of one matched coupon of a COUPON entry does (R55, R77). -/
def ValuesCoupon (n : Nat) (e : PromoEntry) (v : CouponValue) (threshold : Nat) (c : WCoupon) (sc after : Scan) : Prop :=
  let weights := stageDWeights sc e
  let spend := weights.sum
  let value := if spend < threshold then 0 else match v with
    | .amount x => min x spend
    | .percent p => (spend * p + 5000) / 10000
  (value = 0 → after = sc) ∧
  (0 < value → Writes sc after
    { sc with coupons := sc.coupons.map (fun k => if k.id = c.id then { k with amount := value } else k) }
    (some n) .coupon value none (some (c.cls, c.serial)) (apportion value weights))

/-- What a COUPON entry that applies does: the coupons of its class that are not REFUSED are tested in list order, as many as its limit
allows, each on the scan as the one before it left it (R55). -/
def TestsCoupons (n : Nat) (e : PromoEntry) (cls : Nat) (v : CouponValue) (threshold : Nat) (sc after : Scan) : Prop :=
  let named := sc.coupons.filter (fun c => c.cls == cls && c.state != .refused)
  let matched := if e.limit = 0 then named else named.take e.limit
  ∃ stages : List Scan, stages.length = matched.length + 1 ∧ stages[0]? = some sc ∧ stages[matched.length]? = some after ∧
    ∀ j c before next, matched[j]? = some c → stages[j]? = some before → stages[j + 1]? = some next →
      ValuesCoupon n e v threshold c before next

/-- What entry `n` does to a scan when it applies at its visit, by its kind, with `held` the units of each allotment in the basket (R52,
step 5; R53 to R55, R57). -/
def EntryActs (n : Nat) (e : PromoEntry) (held : Nat → Nat) (sc after : Scan) : Prop :=
  match e.kind with
  | .quantityBreak m threshold price => TiersLines n e m threshold price sc after
  | .multibuy k price => FormsSets n e k price sc after
  | .allotmentPrice a special => PricesUnits n e a special (held a) sc after
  | .percentOff rate minimum => TakesPercent n e rate minimum sc after
  | .amountOff threshold amount => TakesAmount n e threshold amount sc after
  | .coupon cls v threshold => TestsCoupons n e cls v threshold sc after
  | .pointsMultiplier factor => after = { sc with lines := sc.lines.map (fun l =>
      if partFor e.group l then { l with factor := max l.factor factor } else l) }

/-- A rate of an entry is at most the whole, as R30 gives it. -/
def rateBounded (e : PromoEntry) : Prop :=
  match e.kind with
  | .percentOff rate _ => rate ≤ 10000
  | .coupon _ (.percent p) _ => p ≤ 10000
  | _ => True

/-- The law of the priced basket on a scan that stands at `p`, from stage B on: the stage-A amounts of the LIVE lines, less the amounts of
the adjustments of stages B to D, less the stage E amount, which is 0 until that stage, are their nets, and no net is above its stage-A
amount. While there are units to consume, the net of a line that takes part is at least its free value, and before it is tiered its net is
its extended amount at its base price, with nothing of it consumed (R70, R71, R83). -/
def PricedLaw (sc : Scan) (p : Position) : Prop :=
  let live := sc.lines.filter (·.live)
  let promotions := ((sc.adjustments.filter (fun a => a.kind != .basketDiscount)).map (·.amount)).sum
  (live.map (·.net)).sum + promotions + sc.stageE = (live.map (·.stageA)).sum ∧
  (∀ l ∈ live, l.net ≤ l.stageA) ∧
  ((∃ stage k, p = .visit stage k ∧ stage ≠ .f) ∨ p = .e → sc.stageE = 0) ∧
  ((∃ k, p = .visit .b k) ∨ (∃ k, p = .visit .c k) → ∀ l ∈ live, l.override = none → valueLeft l ≤ l.net) ∧
  ((∃ k, p = .visit .b k) → ∀ l ∈ live, l.override = none → l.tier = none →
    l.net = l.extended ∧ l.extended = extendedAmount l.measure l.base l.qty ∧ l.consumedUnits = 0 ∧ l.consumedFlag = false)

/-! ## The words of claims about records and peers -/

/-- The state after an event has written basket `b` into slot `i`, once or more: the basket's revision is one higher than in `b`, a basket
in F4 is back in F3, and the raise has triggered the engine when the basket is the active one and is scanned (R12, R24, R46). -/
def afterWrite (s : State) (i : Fin 4) (b : Basket) : State :=
  let raised := { b with
    revision := b.revision + 1,
    state := match b.state with
      | .finalising .f4 tag => .finalising .f3 tag
      | st => st }
  { s with
    bst := s.bst.set i (some raised),
    eve := if s.bst.active = some i ∧ b.state ≠ .settled then triggered s i raised else s.eve }

/-- The state with slot `i`'s basket changed by `f`, as one event's writes; a FREE slot stays FREE. -/
def rewritten (s : State) (i : Fin 4) (f : Basket → Basket) : State :=
  match s.bst.get i with
  | some b => afterWrite s i (f b)
  | none => s

/-- The state with a response at the tail of its queue (R184). -/
def responded (s : State) (r : Response) : State := { s with tlp := { s.tlp with responses := s.tlp.responses ++ [r] } }

/-- The state with a notice at the tail of its queue, or dropped and the notices-lost flag set when 4 wait (R187). -/
def noticed (s : State) (n : Notice) : State :=
  if s.tlp.notices.length < 4 then { s with tlp := { s.tlp with notices := s.tlp.notices ++ [n] } }
  else { s with tlp := { s.tlp with noticesLost := true, lossUnseen := s.tlp.lossUnseen || !s.tlp.noticesLost } }

/-- The station's own holdings of allotment `a`: the units sold and those its baskets hold (R146). -/
def ownUnits (s : State) (a : Nat) : Nat :=
  let units (i : Fin 4) : Nat := ((s.bst.get i).map (fun b => countGet a b.held)).getD 0
  countGet a s.cle.sold + units 0 + units 1 + units 2 + units 3

/-- The count of allotment `a` for station `t`: the station's own holdings in its own column, the table's figure in any other (R155,
R161). -/
def shown (s : State) (a t : Nat) : Nat :=
  if t = s.stc.station then min (ownUnits s a) 65535 else countGet (holdingCell a t) s.pst.holdings

/-- The quantity of allotment `a` in the station's table, 0 for one that is not defined (R28). -/
def quantityOf (s : State) (a : Nat) : Nat := ((tableGet a s.ptb.allots).map (·.quantity)).getD 0

/-- The redeemed-today figure of member `m`, 0 with no entry (R165). -/
def redeemedBy (p : Pst) (m : Nat) : Nat := ((p.members.find? (fun e => e.1 == m)).map (·.2)).getD 0

/-- The conflict tests on the tables as they stand, of a claim or a PURGE that is heard, offered or resolved (R137, R142, R158). -/
def Objected (s : State) (p : Payload) : Prop :=
  match p with
  | .allotClaim a n =>
    quantityOf s a < ((List.range 32).map (fun k => shown s a (k + 1))).sum + n ∨ quantityOf s a = 0 ∨
      31 < a ∨ n = 0 ∨ 99 < n
  | .serialClaim c n => (c, n) ∈ s.pst.serials ∨ c = 0 ∨ n = 0
  | .pointsClaim m p => ((s.ptb.header.map (·.cap)).getD 0) < redeemedBy s.pst m + p ∨ m = 0 ∨ p = 0
  | .purge t =>
    (∃ e, tableGet t s.pst.roster = some e ∧ e.state = .present) ∨ t = s.stc.station ∨ t = 0 ∨ 32 < t
  | _ => False

/-- What a record's frame carries (R135, R191). -/
def carried (k : RecordKind) : Payload :=
  match k with
  | .allotClaim _ a n => .allotClaim a n
  | .serialClaim _ c n => .serialClaim c n
  | .pointsClaim _ m p => .pointsClaim m p
  | .allotRelease a n => .allotRelease a n
  | .serialRelease c n => .serialRelease c n
  | .pointsRelease m p => .pointsRelease m p
  | .purge t _ => .purge t
  | .syncAsk => .syncAsk

/-- The peer tables with a pair in the serial set: a pair there already stays where it is, and a full set loses its oldest one (R164). -/
def withSerial (p : Pst) (c n : Nat) : Pst :=
  if (c, n) ∈ p.serials then p
  else if p.serials.length < 1024 then { p with serials := p.serials ++ [(c, n)] }
  else { p with serials := p.serials.drop 1 ++ [(c, n)], serialEvictions := min (p.serialEvictions + 1) 65535 }

/-- The peer tables with a member's figure raised by a claim, 999,999 at most: an entry whose figure changes becomes the last updated, and a
new entry takes the place of the least recently updated one in a full table (R165). -/
def withPoints (p : Pst) (m points : Nat) : Pst :=
  let figure := min (redeemedBy p m + points) 999999
  if ∃ e ∈ p.members, e.1 = m then
    (if redeemedBy p m = figure then p
      else { p with members := p.members.filter (fun e => e.1 != m) ++ [(m, figure)] })
  else if p.members.length < 128 then { p with members := p.members ++ [(m, figure)] }
  else { p with members := p.members.drop 1 ++ [(m, figure)], memberEvictions := min (p.memberEvictions + 1) 65535 }

/-- The peer tables with a member's figure lowered by a release, not below 0; a member with no entry gains none (R160, R165). -/
def withoutPoints (p : Pst) (m points : Nat) : Pst :=
  let figure := redeemedBy p m - points
  if (∃ e ∈ p.members, e.1 = m) ∧ redeemedBy p m ≠ figure then
    { p with members := p.members.filter (fun e => e.1 != m) ++ [(m, figure)] }
  else p

/-- The state with the count of allotment `a` for station `t` at `n`, 65,535 at most; the station's own column is never written (R155, R160,
R161). -/
def withColumn (s : State) (a t n : Nat) : State :=
  if t = s.stc.station then s
  else { s with pst := { s.pst with holdings := countSet (holdingCell a t) (min n 65535) s.pst.holdings } }

/-- The basket with the state of its coupon of that class and serial written. -/
def withCoupon (c n : Nat) (st : CouponState) (b : Basket) : Basket :=
  { b with coupons := b.coupons.map (fun k => if k.cls = c ∧ k.serial = n then { k with state := st } else k) }

/-- The basket with `n` more held units of allotment `a`. -/
def withUnits (a n : Nat) (b : Basket) : Basket := { b with held := countSet a (countGet a b.held + n) b.held }

/-- What a record ACCEPTED does once it has left the queue: it is applied to the station's own tables and written to its basket; the units
of a detached claim are returned by a release, or by the owed flag of a full queue (R138, R145, R161). -/
def acceptedRecord (k : RecordKind) (s : State) : State :=
  match k with
  | .allotClaim (some i) a n => rewritten s i (withUnits a n)
  | .serialClaim (some i) c n => rewritten { s with pst := withSerial s.pst c n } i (withCoupon c n .redeemed)
  | .pointsClaim (some i) m p =>
    rewritten { s with pst := withPoints s.pst m p } i (fun b => { b with points := .granted p })
  | .allotClaim none a n =>
    if s.cle.queue.length < 16 then
      { s with cle := { s.cle with queue := s.cle.queue ++ [⟨.allotRelease a n, 0, s.stc.timeBase⟩] } }
    else { s with cle := { s.cle with owed := setOwed a s.cle.owed } }
  | .serialClaim none c n => { s with pst := withSerial s.pst c n }
  | .pointsClaim none m p => { s with pst := withPoints s.pst m p }
  | .allotRelease _ _ => s
  | .serialRelease c n => { s with pst := { s.pst with serials := s.pst.serials.erase (c, n) } }
  | .pointsRelease m p => { s with pst := withoutPoints s.pst m p }
  | .purge t tag => responded ((List.range 32).foldl (fun u a => withColumn u a t 0) s) ⟨tag, .ok, .none, .none⟩
  | .syncAsk => if s.stc.join = .waiting then { s with stc := { s.stc with join := .running 3000 } } else s

/-- What a claim or a PURGE that is REFUSED does once it has left the queue: nothing for units, the coupon REFUSED, the points outcome
REFUSED, or PEER_REFUSED (R139). -/
def refusedRecord (k : RecordKind) (s : State) : State :=
  match k with
  | .serialClaim (some i) c n => rewritten s i (withCoupon c n .refused)
  | .pointsClaim (some i) _ _ => rewritten s i (fun b => { b with points := .refused })
  | .purge _ tag => responded s ⟨tag, .peerRefused, .none, .none⟩
  | _ => s

/-- The degrade policy of a claim's class is ALLOW (R142). -/
def allows (s : State) (k : RecordKind) : Bool :=
  match s.stc.config with
  | none => false
  | some c => match k with
    | .allotClaim _ _ _ => c.allotPolicy == .allow
    | .serialClaim _ _ _ => c.serialPolicy == .allow
    | .pointsClaim _ _ _ => c.pointsPolicy == .allow
    | _ => false

/-- `t` is `s` with the attached claim `k` resolved by the policy of its class: granted on the spot by ALLOW when the tables do not object,
with the basket's local-decision mark, and with the owed flag for units; REFUSED otherwise (R142). -/
def ResolvedLocally (k : RecordKind) (s t : State) : Prop :=
  let marked (f : Basket → Basket) (b : Basket) : Basket := { f b with localMark := true }
  (allows s k = true → ¬ Objected s (carried k) → t = match k with
    | .allotClaim (some i) a n =>
      rewritten { s with cle := { s.cle with owed := setOwed a s.cle.owed } } i (marked (withUnits a n))
    | .serialClaim (some i) c n =>
      rewritten { s with pst := withSerial s.pst c n } i (marked (withCoupon c n .redeemed))
    | .pointsClaim (some i) m p =>
      rewritten { s with pst := withPoints s.pst m p } i (marked (fun b => { b with points := .granted p }))
    | _ => s) ∧
  (allows s k = false ∨ Objected s (carried k) → t = refusedRecord k s)

/-- `t` is `s` after the UNSETTLED record of kind `k` has left the queue: a claim is resolved by policy, a detached one has no effect, a
release of units owes a HOLDINGS, another release is dropped, a PURGE is answered LANE_DOWN, and a SYNC_ASK begins the join window
(R141). -/
def Unsettled (k : RecordKind) (s t : State) : Prop :=
  match k with
  | .allotClaim (some i) _ _ | .serialClaim (some i) _ _ | .pointsClaim (some i) _ _ =>
    s.bst.get i ≠ none → ResolvedLocally k s t
  | .allotClaim none _ _ | .serialClaim none _ _ | .pointsClaim none _ _ | .serialRelease _ _ | .pointsRelease _ _ => t = s
  | .allotRelease a _ => t = { s with cle := { s.cle with owed := setOwed a s.cle.owed } }
  | .purge _ tag => t = responded s ⟨tag, .laneDown, .none, .none⟩
  | .syncAsk => t = if s.stc.join = .waiting then { s with stc := { s.stc with join := .running 3000 } } else s

/-- A record that stays in the queue when claims can no longer be sent: a release (R143). -/
def isRelease (k : RecordKind) : Bool :=
  match k with
  | .allotRelease _ _ | .serialRelease _ _ | .pointsRelease _ _ => true
  | _ => false

/-- The state with slot `i`'s basket changed by `f` and its revision as it was; a FREE slot stays FREE. -/
def written (s : State) (i : Fin 4) (f : Basket → Basket) : State :=
  match s.bst.get i with
  | some b => { s with bst := s.bst.set i (some (f b)) }
  | none => s

/-- The end of an event that wrote the baskets of `slots`: each of them has its revision raised, once however often it was written, and the
raise of the active one triggers the engine (R24, R46). -/
def raisedOnce (slots : List (Fin 4)) (s : State) : State :=
  ([0, 1, 2, 3].filter (fun i => slots.contains i)).foldl (fun u i => rewritten u i id) s

/-- `t` is `s` after a record of kind `k` has ended where claims cannot be sent, but for the raise of revisions, and `slots` are those whose
baskets it wrote. A claim is granted when the policy of its class is ALLOW and the tables do not object, and is otherwise REFUSED, which
writes nothing for units; a release stays, and a detached claim has no effect (R142, R143). -/
def EndsUnsent (k : RecordKind) (s t : State) (slots : List (Fin 4)) : Prop :=
  let granted : Prop := allows s k = true ∧ ¬ Objected s (carried k)
  let marked (f : Basket → Basket) (b : Basket) : Basket := { f b with localMark := true }
  match k with
  | .allotClaim (some i) a n =>
    (granted → slots = [i] ∧
      t = written { s with cle := { s.cle with owed := setOwed a s.cle.owed } } i (marked (withUnits a n))) ∧
    (¬ granted → slots = [] ∧ t = s)
  | .serialClaim (some i) c n => slots = [i] ∧
    (granted → t = written { s with pst := withSerial s.pst c n } i (marked (withCoupon c n .redeemed))) ∧
    (¬ granted → t = written s i (withCoupon c n .refused))
  | .pointsClaim (some i) m p => slots = [i] ∧
    (granted → t = written { s with pst := withPoints s.pst m p } i (marked (fun b => { b with points := .granted p }))) ∧
    (¬ granted → t = written s i (fun b => { b with points := .refused }))
  | .allotClaim none _ _ | .serialClaim none _ _ | .pointsClaim none _ _ | .allotRelease _ _ | .serialRelease _ _ | .pointsRelease _ _ =>
    slots = [] ∧ t = s
  | .purge _ tag => slots = [] ∧ t = responded s ⟨tag, .laneDown, .none, .none⟩
  | .syncAsk => slots = [] ∧
    t = if s.stc.join = .waiting then { s with stc := { s.stc with join := .running 3000 } } else s

/-- The records of `queue` end in queue order, each on the state that the one before it left, which shows what that one was granted;
`slots` are those whose baskets they wrote (R143). -/
def EndInOrder (queue : List Record) (s t : State) (slots : List (Fin 4)) : Prop :=
  match queue with
  | [] => slots = [] ∧ t = s
  | r :: rest => ∃ u first later, EndsUnsent r.kind s u first ∧ EndInOrder rest u t later ∧ slots = first ++ later

/-- `t` is `base`, in which claims cannot be sent and the releases of `queue` have stayed, with the records of `queue` ended at once, in
queue order, and the revision of each basket they wrote raised once (R24, R143). -/
def QueueResolved (queue : List Record) (base t : State) : Prop :=
  ∃ u slots, EndInOrder queue base u slots ∧ t = raisedOnce slots u

/-- The fields of a heard frame lie in their ranges (R158). -/
def InRange (p : Payload) : Prop :=
  match p with
  | .allotClaim a n | .allotRelease a n => a ≤ 31 ∧ 1 ≤ n ∧ n ≤ 99
  | .serialClaim c n | .serialRelease c n => c ≠ 0 ∧ n ≠ 0
  | .pointsClaim m p | .pointsRelease m p => m ≠ 0 ∧ p ≠ 0
  | .holdings a t _ => a ≤ 31 ∧ 1 ≤ t ∧ t ≤ 32
  | .purge t => 1 ≤ t ∧ t ≤ 32
  | .syncAsk => True
  | .presence c n => c ≤ 3 ∧ n ≤ 4

/-- The tables after a heard frame of source `r` is applied, but for a SYNC_ASK, which enters marks (R160 to R162). -/
def heardApplied (r : Nat) (p : Payload) (s : State) : State :=
  match p with
  | .allotClaim a n => withColumn s a r (shown s a r + n)
  | .allotRelease a n => withColumn s a r (shown s a r - n)
  | .serialClaim c n => { s with pst := withSerial s.pst c n }
  | .serialRelease c n => { s with pst := { s.pst with serials := s.pst.serials.erase (c, n) } }
  | .pointsClaim m n => { s with pst := withPoints s.pst m n }
  | .pointsRelease m n => { s with pst := withoutPoints s.pst m n }
  | .holdings a t n =>
    if t ≠ s.stc.station then withColumn s a t n
    else if s.stc.day = .joining then
      let sold := countGet a s.cle.sold
      { s with cle := { s.cle with sold := countSet a (min (max sold (n - (ownUnits s a - sold))) 65535) s.cle.sold } }
    else if s.stc.day = .trading ∧ n ≠ ownUnits s a then { s with cle := { s.cle with owed := setOwed a s.cle.owed } }
    else s
  | .purge t => (List.range 32).foldl (fun u a => withColumn u a t 0) s
  | .syncAsk | .presence _ _ => s

end Sys2Proof.Machine
end

