-- ==== Sys2Proof/Certificates/Slice0/Obligations.lean ====
section
/-!
DEFINITION. The statements about the LP-340 that are to be proved, each with the rules of spec/ it comes from in OBLIGATIONS.json.
-/

section

open Sys2Proof Sys2Proof.Machine

/-! ## One step -/

/-- The command at the front of the queue runs with the rest of the queue waiting. Requests are dealt with in the order in which they arrive
(R183); that commands of every kind wait in one queue, `pending`, is the model's choice (log entry 32). -/
def Obligations.StepRunsTheFrontCommand : Prop :=
  ∀ (c : Instr) (s : State), step { s with pending := c :: s.pending } = exec c s

/-- The model's choice for a clock the command table has no row for (log entries 1 and 4): with no command waiting, one event whose span has
run out is taken, any of them when several have, and otherwise 1 ms passes on the time base; a part in reset keeps no time. -/
def Obligations.EmptyQueueTakesADueEventOrAMillisecond : Prop :=
  ∀ s : State, s.pending = [] →
    (s.inReset = true → step s = .next s) ∧
    (s.inReset = false → dueEvents s = [] → step s = .next (s.elapse 1)) ∧
    (∀ c, s.inReset = false → dueEvents s = [c] → step s = exec c s) ∧
    (s.inReset = false → 2 ≤ (dueEvents s).length →
      ∃ c ∈ dueEvents s, step s = exec c { s with dueChoices := s.dueChoices + 1 })

/-! ## Power-on, reset and the till link -/

/-- Power-on leaves every block at its values after RESTART full, with the restarted flag set, no response posted and the time base at 0,
from whatever state; and the model's reset state is that of a power-on with the straps at 0 (log entry 2). The bytes last shifted out are
the model's own record and are empty. -/
def Obligations.PowerOnGivesTheStartValues : Prop :=
  ∀ (straps : BitVec 5) (s : State), ∃ t : State, exec (.powerOn straps) s = .next t ∧
    t.stc = { day := .unconfigured, config := none, strap := straps, station := straps.toNat + 1, fromStraps := true,
              dayNumber := 0, join := .idle, timeBase := 0, windowFirst := 0, windowLast := 255, band := 0 } ∧
    t.ptb = { load := .empty, header := none, entries := [], allots := [], staff := [] } ∧
    t.bst = { s0 := none, s1 := none, s2 := none, s3 := none } ∧
    t.eve = { scan := none, wanted := false, position := .none, waitingTotal := none } ∧
    t.atc = { operator := none, lal := none, stack := [], held := none, timer := none } ∧
    t.cle = { queue := [], inFlight := .none, announcement := none, sold := [], owed := 0, echoes := [], presence := none } ∧
    t.pst = { roster := [], holdings := [], serials := [], members := [], conflict := false, ignored := 0,
              serialEvictions := 0, memberEvictions := 0 } ∧
    t.lbp = { bus := none, quiet := false, closing := false, frame := .none, tenure := 0,
              counters := ⟨0, 0, 0, 0, 0, 0, 0, 0⟩, laneLost := false } ∧
    t.tlp = { responses := [], notices := [], tags := [], noticesLost := false, lossUnseen := false, restarted := true, tsdo := [] } ∧
    t.inReset = false ∧ t.dueChoices = s.dueChoices ∧ t.pending = s.pending ∧
    (straps = 0 → s.dueChoices = 0 → s.pending = [] → t = State.reset)

/-- With RSTN low the part pulls neither LC nor LD and holds TATN released, and keeps the rest of its state; until power-on no command
changes anything (the model's choice, log entry 3). The bytes last shifted out are the model's own record (log entry 26). -/
def Obligations.ResetHoldsThePartUntilPowerOn : Prop :=
  ∀ s : State,
    (∃ t, exec .resetAsserted s = .next t ∧ t = { s with inReset := true, tlp := { s.tlp with tsdo := [] } } ∧
      t.attention = false ∧ t.pullsLC = false ∧ t.pullsLD = false) ∧
    (∀ c : Instr, s.inReset = true → c ≠ .resetAsserted → (∀ straps, c ≠ .powerOn straps) → exec c s = .next s)

/-- TATN is pulled low while a response or a notice waits, released while both queues are empty and while RSTN is low, and changes only with
an event that changes a queue or the reset. -/
def Obligations.AttentionIsPulledWhileARecordWaits : Prop :=
  ∀ s : State,
    (s.attention = true ↔ s.inReset = false ∧ (s.tlp.responses ≠ [] ∨ s.tlp.notices ≠ [])) ∧
    (∀ (c : Instr) (t : State), exec c s = .next t → t.attention ≠ s.attention →
      t.tlp.responses ≠ s.tlp.responses ∨ t.tlp.notices ≠ s.tlp.notices ∨ t.inReset ≠ s.inReset)

/-- The link status byte: the ready flag above the responses waiting above the notice code, for every number of them the link can hold. -/
def Obligations.StatusByteCarriesItsFiveFields : Prop :=
  ∀ s : State, s.tlp.responses.length ≤ 8 → s.tlp.notices.length ≤ 4 →
    s.statusByte.toNat / 128 = (if s.tlp.tags.length < 8 then 1 else 0) ∧
    s.statusByte.toNat / 8 % 16 = s.tlp.responses.length ∧
    (s.tlp.restarted = true → s.statusByte.toNat % 8 = 7) ∧
    (s.tlp.restarted = false → s.tlp.noticesLost = false → s.statusByte.toNat % 8 = s.tlp.notices.length) ∧
    (s.tlp.restarted = false → s.tlp.noticesLost = true → s.tlp.notices.length = 3 → s.statusByte.toNat % 8 = 5) ∧
    (s.tlp.restarted = false → s.tlp.noticesLost = true → s.tlp.notices.length = 4 → s.statusByte.toNat % 8 = 6)

/-- POLL, READ_RESPONSE and READ_NOTICE: the status byte is shifted out first and the restarted flag is clear afterwards. A read of an
empty queue shifts out zeros; a read cut short keeps the record; one that clocks every byte takes it from its queue, and a response's tag
with it. Bytes beyond the record read as 0. A notice carries the notices-lost mark as the flag stood when the read began, and a whole read
with the mark set clears the flag; a read under way at the overflow carries no mark and leaves the flag set, and only the first transfer
to end after the overflow can be that read. A transfer is one command, with the bytes clocked as its operand, and so is what a read began
before (log entry 19). -/
def Obligations.TransfersShiftOutAndPop : Prop :=
  ∀ s : State, s.inReset = false →
    exec .poll s =
      .next { s with tlp := { s.tlp with tsdo := [s.statusByte], restarted := false, lossUnseen := false } } ∧
    (∀ clocked, s.tlp.responses = [] → exec (.readResponse clocked) s =
      .next { s with tlp := { s.tlp with tsdo := s.statusByte :: List.replicate clocked 0, restarted := false, lossUnseen := false } }) ∧
    (∀ clocked r rest, s.tlp.responses = r :: rest → clocked < r.bytes.length → exec (.readResponse clocked) s =
      .next { s with tlp := { s.tlp with tsdo := s.statusByte :: r.bytes.take clocked, restarted := false, lossUnseen := false } }) ∧
    (∀ clocked r rest, s.tlp.responses = r :: rest → r.bytes.length ≤ clocked → exec (.readResponse clocked) s =
      .next { s with tlp := { s.tlp with
        tsdo := s.statusByte :: (r.bytes ++ List.replicate (clocked - r.bytes.length) 0), restarted := false, lossUnseen := false,
        responses := rest, tags := s.tlp.tags.erase r.tag } }) ∧
    (∀ clocked, s.tlp.notices = [] → exec (.readNotice clocked false) s =
      .next { s with tlp := { s.tlp with tsdo := s.statusByte :: List.replicate clocked 0, restarted := false, lossUnseen := false } }) ∧
    (∀ clocked n rest, s.tlp.notices = n :: rest → clocked < (noticeBytes n s.tlp.noticesLost).length →
      exec (.readNotice clocked false) s = .next { s with tlp := { s.tlp with
        tsdo := s.statusByte :: (noticeBytes n s.tlp.noticesLost).take clocked, restarted := false, lossUnseen := false } }) ∧
    (∀ clocked n rest, s.tlp.notices = n :: rest → (noticeBytes n s.tlp.noticesLost).length ≤ clocked →
      exec (.readNotice clocked false) s = .next { s with tlp := { s.tlp with
        tsdo := s.statusByte :: (noticeBytes n s.tlp.noticesLost ++
          List.replicate (clocked - (noticeBytes n s.tlp.noticesLost).length) 0),
        restarted := false, lossUnseen := false, notices := rest, noticesLost := false } }) ∧
    (s.tlp.lossUnseen = true → ∀ clocked n rest, s.tlp.notices = n :: rest → (noticeBytes n false).length ≤ clocked →
      ∃ t, exec (.readNotice clocked true) s = .next t ∧ t.tlp.notices = rest ∧
        t.tlp.noticesLost = s.tlp.noticesLost ∧ t.tlp.lossUnseen = false ∧
        t.tlp.tsdo.drop 1 = noticeBytes n false ++ List.replicate (clocked - (noticeBytes n false).length) 0) ∧
    (s.tlp.lossUnseen = false → ∀ clocked, exec (.readNotice clocked true) s = exec (.readNotice clocked false) s)

/-- WRITE_DISCARDED: a record with fewer bytes than its header, or than its length field gives, or a length field below 4, is discarded
unanswered; so is one written while the ready flag is clear, unless it names RESTART; a whole record of an undefined type is outstanding
and refused with BAD_REQUEST, naming a tag that is in use. That the tag is named before the type is refused is log entry 10. That a tag
above 15 is kept whole is log entry 39. -/
def Obligations.DiscardedWritesAreUnanswered : Prop :=
  ∀ (written : List Byte) (s : State), s.inReset = false →
    let len := numberOf (written.take 2)
    let kind := (written.getD 2 0).toNat
    let tag := written.getD 3 0
    let bad := written.length < 4 ∨ written.length < len ∨ len < 4
    let shown : State := { s with tlp := { s.tlp with tsdo := [s.statusByte], restarted := false, lossUnseen := false } }
    (bad → exec (.writeDiscarded written) s = .next shown) ∧
    (¬ bad → 8 ≤ s.tlp.tags.length → kind ≠ 2 → exec (.writeDiscarded written) s = .next shown) ∧
    (¬ bad → s.tlp.tags.length < 8 → kind = 0 ∨ 0x26 < kind →
      exec (.writeDiscarded written) s = .next { shown with tlp := { shown.tlp with
        tags := s.tlp.tags ++ [tag],
        responses := s.tlp.responses ++
          [⟨tag, .badRequest, if tag ∈ s.tlp.tags then .named .tagInUse else .none, .none⟩] } })

/-- Every request but RESTART is discarded when the ready flag is clear or its length field is below its header's; otherwise it is
outstanding and passes the first checks in their order: TAG_IN_USE or malformed, the day state, the operator. One that changes the active
basket's contents is then refused with HELD in HELD and with BASKET_STATE in FINALISING and SETTLED, whatever its operands, and every
request that concerns the active basket, a VOID_BASKET that names no slot among them, with NO_BASKET when there is none. Each refusal
changes the link alone. That TAG_IN_USE comes before a malformed record is log entry 10. That a tag above 15, which makes a record
malformed, is kept whole is log entry 39. -/
def Obligations.EveryRequestIsCheckedInOrder : Prop :=
  ∀ (c : Instr) (h : Hdr) (days : List DayState) (operator : Bool) (s : State),
    requestOf c = some (h, days, operator) → s.inReset = false →
    (8 ≤ s.tlp.tags.length ∨ h.length.toNat < 4 →
      exec c s = .next { s with tlp := { s.tlp with tsdo := [s.statusByte], restarted := false, lossUnseen := false } }) ∧
    (s.tlp.tags.length < 8 → 4 ≤ h.length.toNat → h.tag ∈ s.tlp.tags →
      exec c s = .next { s with tlp := answeredLink s h .badRequest (.named .tagInUse) .none }) ∧
    (Offered h s → FirstChecks h c days operator s) ∧
    (needsBasket c = true → Taken h c s → Serving s → s.bst.active = none →
      exec c s = .next { s with tlp := refusedLink s h .noBasket }) ∧
    (changesBasket c = true → Taken h c s → Serving s →
      (∀ i b, IsActive s i b → b.state = .held → exec c s = .next { s with tlp := refusedLink s h .held }) ∧
      (∀ i b, IsActive s i b → (∃ phase tag, b.state = .finalising phase tag) ∨ b.state = .settled →
        exec c s = .next { s with tlp := refusedLink s h .basketState }))

/-- A request that gets one response, and that no OK, has changed nothing besides the link. -/
def Obligations.ARefusedRequestChangesTheLinkAlone : Prop :=
  ∀ (c : Instr) (h : Hdr) (days : List DayState) (operator : Bool) (s t : State) (r : Response),
    requestOf c = some (h, days, operator) → exec c s = .next t →
    t.tlp.responses = s.tlp.responses ++ [r] → r.status ≠ .ok →
    r.tag = h.tag ∧ t = { s with tlp := answeredLink s h r.status r.detail r.body }

/-! ## The station and its table -/

/-- CONFIGURE in UNCONFIGURED or CONFIGURED stores its record and takes the station number, from the straps when the station field is 0; a
timeout of 0 is stored as 120 s. A station field above 32, or a timeout other than 0 outside 30 to 600 s, is refused with RANGE, naming
the field. -/
def Obligations.ConfigureStoresItsRecord : Prop :=
  ∀ (h : Hdr) (f : ConfigFields) (s : State), Taken h (.configure h f) s →
    s.stc.day = .unconfigured ∨ s.stc.day = .configured →
    let station := if f.station = 0 then s.stc.strap.toNat + 1 else f.station.toNat
    let timeoutOk := f.timeout = 0 ∨ (30 ≤ f.timeout.toNat ∧ f.timeout.toNat ≤ 600)
    (f.station.toNat ≤ 32 → timeoutOk → exec (.configure h f) s = .next
      { s with
        stc := { s.stc with
          day := .configured, station := station, fromStraps := f.station == 0,
          config := some
            { station := f.station.toNat, laneClass := laneClassOfByte f.laneClass, bitRate := bitRateOfByte f.bitRate,
              restartPolicy := restartPolicyOfByte f.restartPolicy, allotPolicy := degradeOfByte f.allotPolicy,
              serialPolicy := degradeOfByte f.serialPolicy, pointsPolicy := degradeOfByte f.pointsPolicy,
              timeout := if f.timeout = 0 then 120 else f.timeout.toNat } },
        tlp := answeredLink s h .ok .none (.configured station (f.station == 0)) }) ∧
    (32 < f.station.toNat → exec (.configure h f) s =
      .next { s with tlp := answeredLink s h .range (.field 1) .none }) ∧
    (f.station.toNat ≤ 32 → ¬ timeoutOk → exec (.configure h f) s =
      .next { s with tlp := answeredLink s h .range (.field 8) .none })

/-- RESTART is taken in every day state, whatever the ready flag and whatever is outstanding: its own response alone is left, every block
is at its start, and keep keeps the configuration record, the station number and a LOADED table. -/
def Obligations.RestartLeavesItsOwnResponseAlone : Prop :=
  ∀ (h : Hdr) (keep : Bool) (straps : BitVec 5) (s : State), s.inReset = false →
    (Instr.restart h keep straps).wellFormed = true →
    ∃ t, exec (.restart h keep straps) s = .next t ∧
      t.bst = ⟨none, none, none, none⟩ ∧ t.eve = .afterReset ∧ t.atc = .afterReset ∧ t.cle = .cleared ∧
      t.pst = .cleared ∧ t.lbp = .off ∧ t.inReset = false ∧ t.pending = s.pending ∧ t.dueChoices = s.dueChoices ∧
      t.tlp = { responses := [⟨h.tag, .ok, .none, .restarted t.stc.day t.stc.station⟩], notices := [], tags := [h.tag],
                noticesLost := false, lossUnseen := false, restarted := false, tsdo := [s.statusByte] } ∧
      t.stc.timeBase = s.stc.timeBase ∧ t.stc.dayNumber = 0 ∧ t.stc.join = .idle ∧ t.stc.windowFirst = 0 ∧
      t.stc.windowLast = 255 ∧ t.stc.band = 0 ∧
      (keep = false → t.stc.day = .unconfigured ∧ t.stc.config = none ∧ t.stc.strap = straps ∧
        t.stc.station = straps.toNat + 1 ∧ t.stc.fromStraps = true ∧ t.ptb = .discarded) ∧
      (keep = true → t.stc.config = s.stc.config ∧ t.stc.strap = s.stc.strap ∧ t.stc.station = s.stc.station ∧
        t.stc.fromStraps = s.stc.fromStraps ∧
        (s.stc.config = none → t.stc.day = .unconfigured) ∧
        (s.stc.config ≠ none → s.ptb.load = .loaded → t.stc.day = .ready) ∧
        (s.stc.config ≠ none → s.ptb.load ≠ .loaded → t.stc.day = .configured) ∧
        (s.ptb.load = .loaded → t.ptb = s.ptb) ∧ (s.ptb.load ≠ .loaded → t.ptb = .discarded))

/-- STATUS and the requests that read: the response carries what it reports as it stands, field by field, STATUS counting itself as
outstanding (log entry 35), and nothing else changes, but that STATUS with the clear flag zeroes the lane counters, LANE_LOST and the peer
tables' counters. READ_LINE returns a LIVE or a VOIDED line with the basket revision and the current flag, and refuses a number that names
none with LINE_STATE. A RANGE refusal here names no field (log entry 13); what a field shows while what it reports is absent is log entry
8. That READ_ALLOTMENT gives the number, the queued and the in-flight units of a slot apart is log entry 44. -/
def Obligations.ReadingRequestsChangeTheLinkAlone : Prop :=
  ∀ (h : Hdr) (s : State),
    let slots : List (Fin 4) := [0, 1, 2, 3]
    let tableTag : Half := if s.ptb.load = .loaded then (s.ptb.header.map (·.tableTag)).getD 0 else 0
    let status : StatusReport :=
      { day := s.stc.day, station := s.stc.station, fromStraps := s.stc.fromStraps, strap := s.stc.strap,
        config := s.stc.config, dayNumber := s.stc.dayNumber, join := s.stc.join, timeBase := s.stc.timeBase,
        load := s.ptb.load, tableTag := tableTag, entryCount := s.ptb.entries.length, staffCount := s.ptb.staff.length,
        slotStates := slots.map (fun i => (s.bst.get i).map (·.state)), activeSlot := s.bst.active,
        scanning := s.eve.scan.isSome, scanSubject := s.eve.scan.map (·.slot), position := s.eve.position,
        wanted := s.eve.wanted, latchedRevision := s.eve.scan.map (·.revision), waitingTotal := s.eve.waitingTotal,
        operator := s.atc.operator.map (fun r => (r.staff, r.level)), lal := s.atc.lal,
        frames := s.atc.stack.reverse.map (fun f => (f.staff, f.level)), timer := s.atc.timer,
        heldOverride := s.atc.held.map (fun o => (o.request.kind, o.slot.val, o.request.line?.getD 0)),
        queueLength := s.cle.queue.length, headKind := s.cle.queue.head?.map (·.kind),
        headAttempts := (s.cle.queue.head?.map (·.attempts)).getD 0,
        headAge := (s.cle.queue.head?.map (fun r => (s.stc.timeBase - r.enqueued).toNat)).getD 0,
        headInFlight := s.cle.inFlight == .head, announcement := s.cle.announcement.map (·.kind),
        owedCount := ((List.range 32).filter (fun a => s.cle.owed.getLsbD a)).length, echoCount := s.cle.echoes.length,
        presenceDue := (s.cle.presence.map (fun ms => decide (10000 ≤ ms))).getD false,
        portOn := s.lbp.bus.isSome, bus := s.lbp.bus, frame := s.lbp.frame, tenure := s.lbp.tenure,
        counters := s.lbp.counters, laneLost := s.lbp.laneLost, conflict := s.pst.conflict, ignored := s.pst.ignored,
        serialEvictions := s.pst.serialEvictions, memberEvictions := s.pst.memberEvictions,
        outstanding := s.tlp.tags.length + 1, responses := s.tlp.responses.length, notices := s.tlp.notices.length,
        noticesLost := s.tlp.noticesLost }
    let inState (st : RosterState) : Nat := (s.pst.roster.filter (fun e => e.2.state == st)).length
    let roster : RosterReport :=
      { station := s.stc.station, dayNumber := s.stc.dayNumber, tableTag := tableTag, conflict := s.pst.conflict,
        entries := (((List.range 32).map (· + 1)).filter (fun t => t != s.stc.station)).map (fun t =>
          (t, (tableGet t s.pst.roster).getD ⟨.absent, none, none, none, none, none, 0, false⟩)),
        presentCount := inState .present, silentCount := inState .silent, foreignCount := inState .foreign,
        serialCount := s.pst.serials.length, memberCount := s.pst.members.length, ignored := s.pst.ignored,
        serialEvictions := s.pst.serialEvictions, memberEvictions := s.pst.memberEvictions }
    let allotment (a : Nat) : AllotmentReport :=
      let quantity := ((tableGet a s.ptb.allots).map (·.quantity)).getD 0
      let units (i : Fin 4) : Nat := ((s.bst.get i).map (fun b => countGet a b.held)).getD 0
      let own := countGet a s.cle.sold + units 0 + units 1 + units 2 + units 3
      let columns := (List.range 32).map (fun k =>
        if k + 1 = s.stc.station then min own 65535 else countGet (holdingCell a (k + 1)) s.pst.holdings)
      let flying := if s.cle.inFlight = .head then 1 else 0
      let claimed (i : Fin 4) (q : List Record) : Nat := (q.map (fun r => match r.kind with
        | .allotClaim (some j) a' n => if j = i ∧ a' = a then n else 0
        | _ => 0)).sum
      { quantity := quantity, entry := (tableGet a s.ptb.allots).bind (·.entry),
        limit := ((tableGet a s.ptb.allots).map (·.limit)).getD 0, sold := countGet a s.cle.sold, own := own,
        holdings := columns, total := columns.sum, remaining := quantity - columns.sum,
        owed := s.cle.owed.getLsbD a, echoes := (s.cle.echoes.filter (fun e => e.1 == a)).length,
        slots := (slots.filter (fun i => (s.bst.get i).isSome)).map (fun i =>
          (i.val, units i, claimed i (s.cle.queue.drop flying), claimed i (s.cle.queue.take flying))) }
    (Taken h (.status h false) s → exec (.status h false) s = .next
      { s with tlp := answeredLink s h .ok .none (.status status) }) ∧
    (Taken h (.status h true) s → exec (.status h true) s = .next
      { s with
        tlp := answeredLink s h .ok .none (.status status),
        lbp := { s.lbp with counters := ⟨0, 0, 0, 0, 0, 0, 0, 0⟩, laneLost := false },
        pst := { s.pst with ignored := 0, serialEvictions := 0, memberEvictions := 0 } }) ∧
    (Taken h (.readRoster h) s → s.stc.day ≠ .unconfigured → exec (.readRoster h) s = .next
      { s with tlp := answeredLink s h .ok .none (.roster roster) }) ∧
    (∀ a, Taken h (.readAllotment h a) s → s.stc.day ≠ .unconfigured →
      (a.toNat ≤ 31 → exec (.readAllotment h a) s = .next
        { s with tlp := answeredLink s h .ok .none (.allotment (allotment a.toNat)) }) ∧
      (31 < a.toNat → exec (.readAllotment h a) s = .next { s with tlp := refusedLink s h .range })) ∧
    (∀ i b, Taken h (.readAdjustments h) s → Serving s → IsActive s i b → exec (.readAdjustments h) s = .next
      { s with tlp := answeredLink s h .ok .none (.adjustments
        { adjustments := b.adjustments, coupons := b.coupons, member := b.member, request := b.request, points := b.points,
          revision := b.revision, summaryRevision := b.summary.revision }) }) ∧
    (∀ line, Taken h (.readLine h line) s → Serving s →
      (s.bst.active = none → exec (.readLine h line) s = .next { s with tlp := refusedLink s h .noBasket }) ∧
      (∀ i b, IsActive s i b → line = 0 ∨ b.lines.length < line.toNat →
        exec (.readLine h line) s = .next { s with tlp := refusedLink s h .lineState }) ∧
      (∀ i b l, IsActive s i b → line ≠ 0 → b.lines[line.toNat - 1]? = some l →
        exec (.readLine h line) s = .next
          { s with tlp := answeredLink s h .ok .none (.line l b.revision (b.summary.revision == b.revision)) }))

/-- LOAD_BEGIN discards the table, stores the header and takes the station to CONFIGURED, or is refused with RANGE, naming the first field
out of range. LOAD_PROMO replaces the entry it names whole, or empties it, and leaves every other entry; LOAD_STAFF appends its record, up
to 64. Both need a load in progress, and both are refused with RANGE for a field out of range, LOAD_PROMO naming it. Which RANGE refusals
name a field, and by which number, is log entry 13. That a PERCENT value stands in the low two bytes of its field, the high two having no
effect, is log entry 14. -/
def Obligations.LoadingFillsTheTable : Prop :=
  ∀ (h : Hdr) (s : State), s.stc.day = .configured ∨ s.stc.day = .ready →
    let noLoad : State := { s with tlp := answeredLink s h .table (.named .noLoad) .none }
    (∀ f, Taken h (.loadBegin h f) s →
      (headerFault f = none → exec (.loadBegin h f) s = .next
        { s with
          ptb := { load := .loading, header := some (headerOf f), entries := [], allots := [], staff := [] },
          stc := { s.stc with day := .configured },
          tlp := answeredLink s h .ok .none (.loadBegun f.tableTag) }) ∧
      (∀ p, headerFault f = some p → exec (.loadBegin h f) s = .next
        { s with tlp := answeredLink s h .range (.field p) .none }) ∧
      (f.tableTag = 0 → headerFault f = some 1) ∧
      (headerFault f = none ↔ HeaderInRange f)) ∧
    (∀ n f, Taken h (.loadPromo h n f) s → s.ptb.load ≠ .loading → exec (.loadPromo h n f) s = .next noLoad) ∧
    (∀ n c p, Taken h (.loadPromo h n (.entry c p)) s → s.ptb.load = .loading →
      (promoFault c p = none → ∃ entries, exec (.loadPromo h n (.entry c p)) s = .next
          { s with ptb := { s.ptb with entries := entries },
                   tlp := answeredLink s h .ok .none (.promoLoaded n.toNat entries.length) } ∧
        ∀ m, tableGet m entries = if m = n.toNat then some (promoOf c p) else tableGet m s.ptb.entries) ∧
      (∀ position, promoFault c p = some position → exec (.loadPromo h n (.entry c p)) s = .next
        { s with tlp := answeredLink s h .range (.field position) .none }) ∧
      (promoFault c p = none ↔ PromoInRange c p)) ∧
    (∀ n, Taken h (.loadPromo h n .empty) s → s.ptb.load = .loading →
      ∃ entries, exec (.loadPromo h n .empty) s = .next
          { s with ptb := { s.ptb with entries := entries },
                   tlp := answeredLink s h .ok .none (.promoLoaded n.toNat entries.length) } ∧
        ∀ m, tableGet m entries = if m = n.toNat then none else tableGet m s.ptb.entries) ∧
    (∀ staff level limit, Taken h (.loadStaff h staff level limit) s →
      let inRange := staff ≠ 0 ∧ level.toNat ≤ 3 ∧ limit.toNat ≤ 99999999
      (s.ptb.load ≠ .loading → exec (.loadStaff h staff level limit) s = .next noLoad) ∧
      (s.ptb.load = .loading → ¬ inRange → exec (.loadStaff h staff level limit) s =
        .next { s with tlp := refusedLink s h .range }) ∧
      (s.ptb.load = .loading → inRange → s.ptb.staff.length < 64 → exec (.loadStaff h staff level limit) s = .next
        { s with ptb := { s.ptb with staff := s.ptb.staff ++ [⟨staff.toNat, level.toNat, limit.toNat⟩] },
                 tlp := answeredLink s h .ok .none (.staffLoaded (s.ptb.staff.length + 1)) }) ∧
      (s.ptb.load = .loading → inRange → 64 ≤ s.ptb.staff.length → exec (.loadStaff h staff level limit) s =
        .next { s with tlp := refusedLink s h .limit }))

/-- LOAD_END loads exactly the tables that pass its five checks: the allotments of quantity above 0 become defined, the load state LOADED
and the day state READY; a table that fails a check is refused with TABLE, and nothing changes. -/
def Obligations.LoadEndLoadsExactlySoundTables : Prop :=
  ∀ (h : Hdr) (hd : Header) (s : State), Taken h (.loadEnd h) s →
    s.stc.day = .configured ∨ s.stc.day = .ready → s.ptb.load = .loading → s.ptb.header = some hd →
    (SoundTable hd s.ptb → ∃ allots, exec (.loadEnd h) s = .next
        { s with ptb := { s.ptb with load := .loaded, allots := allots }, stc := { s.stc with day := .ready },
                 tlp := answeredLink s h .ok .none
                   (.loadEnded hd.tableTag s.ptb.entries.length s.ptb.staff.length allots.length) } ∧
      ∀ a < 32, (hd.quantities.getD a 0 = 0 → tableGet a allots = none) ∧
        (hd.quantities.getD a 0 ≠ 0 → ∃ d, tableGet a allots = some d ∧ d.quantity = hd.quantities.getD a 0)) ∧
    (¬ SoundTable hd s.ptb → ∃ detail body, exec (.loadEnd h) s = .next
        { s with tlp := answeredLink s h .table (.named detail) body })

/-! ## The trading day -/

/-- DAY_OPEN in READY: the day number is the one carried, the peer tables are clear, the claims engine holds one SYNC_ASK alone with its
presence timer at 0, the port is ON in BUSY and the join window waits; in STATION_CONFLICT the SYNC_ASK ends at once and the window runs
with 3 s. A day number of 0 is refused with RANGE. DAY_CLOSE in TRADING with every slot FREE: the queue, the announcement, the counts, the
flags and the peer tables are cleared, each PURGE_STATION that waits is answered LANE_DOWN before DAY_CLOSE itself, the port turns OFF, or
stays ON to complete a frame being sent, and the station is READY with the rest kept. A slot that is not FREE refuses it with
BASKET_STATE. A RANGE refusal here names no field (log entry 13). That the PURGE_STATIONs are answered before DAY_CLOSE is log entry 11,
and that the join window begins with DAY_OPEN itself in STATION_CONFLICT is log entry 31. -/
def Obligations.TheDayOpensAndCloses : Prop :=
  ∀ (h : Hdr) (s : State),
    (∀ day, Taken h (.dayOpen h day) s → s.stc.day = .ready →
      (day ≠ 0 → exec (.dayOpen h day) s = .next
        { s with
          stc := { s.stc with day := .joining, dayNumber := day,
                              join := if s.pst.conflict then .running 3000 else .waiting },
          pst := { s.pst with roster := [], holdings := [], serials := [], members := [] },
          cle := { queue := if s.pst.conflict then [] else [⟨.syncAsk, 0, s.stc.timeBase⟩], inFlight := .none,
                   announcement := none, sold := [], owed := 0, echoes := [], presence := some 0 },
          lbp := { s.lbp with bus := some .busy, quiet := false, closing := false, frame := .none, tenure := 0 },
          tlp := answeredLink s h .ok .none (.dayNumber day) }) ∧
      (day = 0 → exec (.dayOpen h day) s = .next { s with tlp := refusedLink s h .range })) ∧
    (Taken h (.dayClose h) s → s.stc.day = .trading →
      (s.bst = ⟨none, none, none, none⟩ → exec (.dayClose h) s = .next
        { s with
          stc := { s.stc with day := .ready, join := .idle },
          cle := { queue := [], inFlight := .none, announcement := none, sold := [], owed := 0, echoes := [], presence := none },
          pst := { s.pst with roster := [], holdings := [], serials := [], members := [] },
          lbp := (match s.lbp.frame with
            | .sending _ => { s.lbp with closing := true }
            | _ => { s.lbp with bus := none, quiet := false, closing := false, frame := .none, tenure := 0 }),
          tlp := { deferredLink s h with
            responses := s.tlp.responses ++
              s.cle.queue.filterMap (fun r => match r.kind with
                | .purge _ tag => some ⟨tag, .laneDown, .none, .none⟩
                | _ => none) ++
              [⟨h.tag, .ok, .none, .dayNumber s.stc.dayNumber⟩] } }) ∧
      (s.bst ≠ ⟨none, none, none, none⟩ → exec (.dayClose h) s = .next { s with tlp := refusedLink s h .basketState }))

/-- SET_WINDOW and SET_TIME_BAND in READY and TRADING store their figures, which triggers the engine while the active basket is TRADING,
HELD or FINALISING, even when the figures are those in force; a band above 7 is refused with RANGE. A RANGE refusal here names no field
(log entry 13). -/
def Obligations.WindowAndBandTriggerAScan : Prop :=
  ∀ (h : Hdr) (s : State), s.stc.day = .ready ∨ s.stc.day = .trading →
    let scanned (b : Basket) : Prop := b.state ≠ .parked ∧ b.state ≠ .settled
    (∀ first last : Byte, Taken h (.setWindow h first last) s →
      let now : State := { s with stc := { s.stc with windowFirst := first.toNat, windowLast := last.toNat } }
      let link := answeredLink s h .ok .none (.window first.toNat last.toNat)
      (∀ i b, IsActive s i b → scanned b →
        exec (.setWindow h first last) s = .next { now with eve := triggered now i b, tlp := link }) ∧
      ((s.bst.active = none ∨ ∃ i b, IsActive s i b ∧ b.state = .settled) →
        exec (.setWindow h first last) s = .next { now with tlp := link })) ∧
    (∀ band : Byte, Taken h (.setTimeBand h band) s →
      let now : State := { s with stc := { s.stc with band := band.toNat } }
      let link := answeredLink s h .ok .none (.timeBand band.toNat)
      (∀ i b, band.toNat ≤ 7 → IsActive s i b → scanned b →
        exec (.setTimeBand h band) s = .next { now with eve := triggered now i b, tlp := link }) ∧
      (band.toNat ≤ 7 → (s.bst.active = none ∨ ∃ i b, IsActive s i b ∧ b.state = .settled) →
        exec (.setTimeBand h band) s = .next { now with tlp := link }) ∧
      (7 < band.toNat → exec (.setTimeBand h band) s = .next { s with tlp := refusedLink s h .range }))

/-! ## Staff and authority -/

/-- SIGN_ON is checked in its order and gives the station an operator from the staff list, at that person's level; under the law of
authority the stack is then empty and the timer stopped. -/
def Obligations.SignOnGivesTheStationAnOperator : Prop :=
  ∀ (h : Hdr) (staff : Half) (s : State), Offered h s →
    FirstChecks h (.signOn h staff) [.ready, .joining, .trading] false s ∧
    (Taken h (.signOn h staff) s → s.stc.day ∈ [DayState.ready, .joining, .trading] →
      (s.atc.operator ≠ none → exec (.signOn h staff) s =
        .next { s with tlp := answeredLink s h .authority (.named .signedOn) .none }) ∧
      (s.atc.operator = none → s.findStaff staff.toNat = none → exec (.signOn h staff) s =
        .next { s with tlp := answeredLink s h .authority (.named .unknownStaff) .none }) ∧
      (∀ r, s.atc.operator = none → s.findStaff staff.toNat = some r → exec (.signOn h staff) s =
        .next { s with atc := { s.atc with operator := some r, lal := some r.level },
                       tlp := answeredLink s h .ok .none (.signedOn r.staff r.level) }) ∧
      (s.atc.operator = none → s.atc.law = true → s.atc.stack = [] ∧ s.atc.timer = none))

/-- SIGN_OFF with no active basket: the operator, the LAL, every frame and the timer are gone; in the parked baskets the presence-bound
overrides of every depth up to the stack's, and of depth 0, are withdrawn, and each pop that withdraws one posts its notice, top frame
first and depth 0 last; the response gives the frames popped and the overrides withdrawn; nothing else changes. With an active basket it
is refused with BASKET_STATE. A basket that loses overrides at several depths has its revision raised once, since SIGN_OFF is one event
(R24, log entry 25). The slot numbers in a notice rise (log entry 43). -/
def Obligations.SignOffPopsEveryFrame : Prop :=
  ∀ (h : Hdr) (r : StaffRecord) (s : State), Taken h (.signOff h) s → s.atc.operator = some r →
    let depth := s.atc.stack.length
    let popped (d : Nat) : Bool := decide (d ≤ depth)
    let posted : List Notice := s.atc.stack.zipIdx.flatMap (fun f => withdrawalNotice s (depth - f.2) f.1.staff) ++
      withdrawalNotice s 0 r.staff
    (s.bst.active ≠ none → exec (.signOff h) s = .next { s with tlp := refusedLink s h .basketState }) ∧
    (s.bst.active = none → ∃ t, exec (.signOff h) s = .next t ∧
      t.atc = { s.atc with operator := none, lal := none, stack := [], timer := none } ∧
      (∀ i, t.bst.get i = (s.bst.get i).map (withdrawnAt popped)) ∧
      t.tlp.responses = s.tlp.responses ++ [⟨h.tag, .ok, .none, .signedOff depth (withdrawnInAll popped s)⟩] ∧
      t.tlp.tags = s.tlp.tags ++ [h.tag] ∧
      (s.tlp.notices.length ≤ 4 → Posted s.tlp posted t.tlp) ∧
      t.stc = s.stc ∧ t.ptb = s.ptb ∧ t.eve = s.eve ∧ t.cle = s.cle ∧ t.pst = s.pst ∧ t.lbp = s.lbp ∧
      t.inReset = s.inReset ∧ t.pending = s.pending ∧ t.dueChoices = s.dueChoices)

/-- AUTHORISE with no held override: checked for the staff record, a full stack and a gain, in that order; when taken, a frame saving the
LAL is pushed, the LAL falls to the record's level and the timer starts at the full timeout. Nothing is pushed by a refusal. -/
def Obligations.AuthorisePushesAFrame : Prop :=
  ∀ (h : Hdr) (staff : Half) (l : Nat) (s : State), Taken h (.authorise h staff) s → s.atc.operator ≠ none →
    s.atc.lal = some l →
    (s.findStaff staff.toNat = none → exec (.authorise h staff) s =
      .next { s with tlp := answeredLink s h .authority (.named .unknownStaff) .none }) ∧
    (∀ r, s.findStaff staff.toNat = some r → 3 ≤ s.atc.stack.length → exec (.authorise h staff) s =
      .next { s with tlp := answeredLink s h .authority (.named .stackFull) .none }) ∧
    (∀ r, s.findStaff staff.toNat = some r → s.atc.stack.length < 3 → l ≤ r.level → exec (.authorise h staff) s =
      .next { s with tlp := answeredLink s h .authority (.named .noGain) .none }) ∧
    (∀ r, s.findStaff staff.toNat = some r → s.atc.stack.length < 3 → r.level < l → s.atc.held = none →
      exec (.authorise h staff) s = .next
        { s with
          atc := { s.atc with stack := ⟨r.staff, r.level, r.limit, l⟩ :: s.atc.stack, lal := some r.level,
                              timer := some s.timeoutMs },
          tlp := answeredLink s h .ok (.named .elevated) (.elevated (s.atc.stack.length + 1) r.level) })

/-- A taken AUTHORISE tests the held override with the new level and limit: when they reach its gate and reduction it is applied, stamped
with the pushed frame, and the basket goes back to TRADING with its revision raised; when they do not, the frame stays and the basket
stays HELD. -/
def Obligations.AuthoriseTestsTheHeldOverride : Prop :=
  ∀ (h : Hdr) (staff : Half) (l : Nat) (r : StaffRecord) (o : HeldOverride) (b : Basket) (s : State),
    Taken h (.authorise h staff) s → s.atc.operator ≠ none → s.atc.lal = some l → s.findStaff staff.toNat = some r →
    s.atc.stack.length < 3 → r.level < l → s.atc.held = some o → IsActive s o.slot b → b.state = .held →
    let depth := s.atc.stack.length + 1
    let frame : ElevFrame := ⟨r.staff, r.level, r.limit, l⟩
    let stamp : Stamp := ⟨r.staff, r.level, depth, s.presenceBound o.request⟩
    let atc := { s.atc with stack := frame :: s.atc.stack, lal := some r.level, timer := some s.timeoutMs }
    (r.level ≤ o.gate ∧ o.reduction ≤ r.limit → ∃ report, report.stamp = stamp ∧ report.gate = o.gate ∧
      report.reduction = o.reduction ∧ report.revision = b.revision + 1 ∧
      exec (.authorise h staff) s = .next (afterChange { s with atc := { atc with held := none } } o.slot
        (placeOverride o.request o.reduction stamp { b with state := .trading })
        (answeredLink s h .ok (.named .heldApplied) (.heldApplied depth r.level report)))) ∧
    (¬ (r.level ≤ o.gate ∧ o.reduction ≤ r.limit) → exec (.authorise h staff) s = .next
      { s with atc := atc,
               tlp := answeredLink s h .ok (.named .stillHeld) (.stillHeld depth r.level o.gate o.reduction) })

/-- DROP_AUTHORITY and ELEVATION_EXPIRY pop the top frame: the LAL returns to the level saved in it, the timer starts at the full timeout
for the frame below or stops, a held override stays held, and in every basket the presence-bound overrides of the popped depth are
withdrawn, which the response counts and a notice tells when there is one; a withdrawal from the active basket triggers the engine. An
expiry first lets the span left on the timer pass (log entry 7), and posts its own notice before that of the withdrawal. With no frame,
DROP_AUTHORITY is refused with AUTHORITY, naming NOT_ELEVATED. The slot numbers in a notice rise (log entry 43). -/
def Obligations.APopRestoresTheSavedLevel : Prop :=
  ∀ s : State,
    (∀ h, Taken h (.dropAuthority h) s → s.atc.operator ≠ none → s.atc.stack = [] → exec (.dropAuthority h) s =
      .next { s with tlp := answeredLink s h .authority (.named .notElevated) .none }) ∧
    ∀ (f : ElevFrame) (rest : List ElevFrame), s.atc.stack = f :: rest →
    let depth := rest.length + 1
    let at? (d : Nat) : Bool := d == depth
    let popped (now t : State) : Prop :=
      t.atc = { s.atc with stack := rest, lal := some f.savedLal,
                           timer := if rest = [] then none else some s.timeoutMs } ∧
      (∀ i, t.bst.get i = (s.bst.get i).map (withdrawnAt at?)) ∧
      ((∀ i b, IsActive s i b → withdrawnAt at? b = b) → t.eve = s.eve) ∧
      (∀ i b, IsActive s i b → withdrawnAt at? b ≠ b → t.eve = triggered now i (withdrawnAt at? b)) ∧
      t.stc = now.stc ∧ t.ptb = s.ptb ∧ t.cle = now.cle ∧ t.pst = now.pst ∧ t.lbp = now.lbp ∧
      t.inReset = s.inReset ∧ t.pending = s.pending ∧ t.dueChoices = s.dueChoices
    (∀ h, Taken h (.dropAuthority h) s → s.atc.operator ≠ none →
      ∃ t, exec (.dropAuthority h) s = .next t ∧ popped s t ∧
        t.tlp.responses = s.tlp.responses ++
          [⟨h.tag, .ok, .none, .dropped rest.length f.savedLal (withdrawnInAll at? s)⟩] ∧
        t.tlp.tags = s.tlp.tags ++ [h.tag] ∧
        (s.tlp.notices.length ≤ 4 → Posted s.tlp (withdrawalNotice s depth f.staff) t.tlp)) ∧
    (∀ ms, s.inReset = false → s.atc.timer = some ms →
      ∃ t, exec .elevationExpiry s = .next t ∧ popped (s.elapse ms) t ∧
        t.tlp.responses = s.tlp.responses ∧ t.tlp.tags = s.tlp.tags ∧
        (s.tlp.notices.length ≤ 4 →
          Posted s.tlp (.elevationExpired depth f.staff :: withdrawalNotice s depth f.staff) t.tlp))

/-! ## Opening and leaving a basket -/

/-- OPEN_BASKET: refused with an active basket, or with no FREE slot; otherwise the lowest FREE slot holds a new basket record, on which a
TOTAL is answered at once. -/
def Obligations.OpenBasketTakesTheLowestFreeSlot : Prop :=
  ∀ (h : Hdr) (s : State), Taken h (.openBasket h) s → Serving s →
    (s.bst.active ≠ none → exec (.openBasket h) s = .next { s with tlp := refusedLink s h .basketState }) ∧
    (s.bst.active = none → (∀ i, s.bst.get i ≠ none) →
      exec (.openBasket h) s = .next { s with tlp := refusedLink s h .limit }) ∧
    (∀ i, s.bst.active = none → s.bst.get i = none → (∀ j < i, s.bst.get j ≠ none) →
      ∃ b : Basket, exec (.openBasket h) s = .next
          { s with bst := s.bst.set i (some b), tlp := answeredLink s h .ok .none (.slot i) } ∧
        b.state = .trading ∧ b.revision = 0 ∧ b.lines = [] ∧ b.coupons = [] ∧ b.adjustments = [] ∧ b.member = none ∧
        b.request = 0 ∧ b.discount = none ∧ b.award = none ∧ (∀ a, countGet a b.held = 0) ∧ b.points = .none ∧
        b.withdrawn = false ∧ b.localMark = false ∧
        b.summary = ⟨0, 0, 0, 0, 0, 0, 0, 0, 0, 0, 0, ⟨false, false, false, false, false⟩⟩ ∧
        (∀ (g : Hdr) (t : State), Taken g (.total g) t → Serving t → IsActive t i b → t.eve.scan = none →
          t.eve.waitingTotal = none →
          exec (.total g) t = .next { t with tlp := answeredLink t g .ok .none (.total i b.summary) }))

/-- PARK of a TRADING basket: the slot is PARKED at the same revision and summary, a scan in progress is abandoned with nothing written, a
waiting TOTAL is answered NO_BASKET, and the queue goes on. From another state it is refused with BASKET_STATE. That the waiting TOTAL is
answered before PARK itself is log entry 11. -/
def Obligations.ParkSetsTheBasketAside : Prop :=
  ∀ (h : Hdr) (s : State), Taken h (.park h) s → Serving s →
    (s.bst.active = none → exec (.park h) s = .next { s with tlp := refusedLink s h .noBasket }) ∧
    (∀ i b, IsActive s i b → b.state ≠ .trading →
      exec (.park h) s = .next { s with tlp := refusedLink s h .basketState }) ∧
    (∀ i b, IsActive s i b → b.state = .trading → exec (.park h) s = .next
      { s with
        bst := s.bst.set i (some { b with state := .parked }),
        eve := { s.eve with scan := none, wanted := false, waitingTotal := none },
        tlp := { deferredLink s h with
          responses := s.tlp.responses ++
            s.eve.waitingTotal.toList.map (fun tag => ⟨tag, .noBasket, .none, .none⟩) ++
            [⟨h.tag, .ok, .none, .slot i⟩] } })

/-- RECALL: refused with an active basket, or of a slot that is not PARKED; otherwise the slot's basket is TRADING at the same revision
and the engine is triggered, whatever the revision. -/
def Obligations.RecallAlwaysLeadsToAScan : Prop :=
  ∀ (h : Hdr) (slot : Byte) (s : State), Taken h (.recall h slot) s → Serving s →
    (s.bst.active ≠ none → exec (.recall h slot) s = .next { s with tlp := refusedLink s h .basketState }) ∧
    (∀ i : Fin 4, i.val = slot.toNat → s.bst.active = none → s.bst.get i = none →
      exec (.recall h slot) s = .next { s with tlp := refusedLink s h .basketState }) ∧
    (∀ (i : Fin 4) b, i.val = slot.toNat → s.bst.active = none → s.bst.get i = some b → b.state = .parked ∧
      exec (.recall h slot) s = .next
        { s with
          bst := s.bst.set i (some { b with state := .trading }),
          eve := triggered s i { b with state := .trading },
          tlp := answeredLink s h .ok .none (.slotRevision i b.revision) })

/-- CLOSE of a SETTLED basket: its held units are added to the sold counts, so the own holdings of every allotment stand, and its slot is
FREE. REOPEN enters a release for each redeemed serial and then for granted points, returns the basket to TRADING with its revision
raised, and is refused with LIMIT when the queue has too little room. From another state both are refused with BASKET_STATE. That a sold
count stops at 65,535, as every count of the holdings does, is log entry 29. -/
def Obligations.CloseAndReopenLeaveTheSettledState : Prop :=
  ∀ (h : Hdr) (i : Fin 4) (b : Basket) (s : State), Serving s → IsActive s i b →
    (Taken h (.close h) s →
      (b.state ≠ .settled → exec (.close h) s = .next { s with tlp := refusedLink s h .basketState }) ∧
      (b.state = .settled → ∃ sold,
        exec (.close h) s = .next
          { s with cle := { s.cle with sold := sold }, bst := s.bst.set i none,
                   tlp := answeredLink s h .ok .none (.slot i) } ∧
        (∀ a < 32, countGet a sold = min (countGet a s.cle.sold + countGet a b.held) 65535) ∧
        (∀ a < 32, countGet a s.cle.sold + countGet a b.held ≤ 65535 →
          ({ s with cle := { s.cle with sold := sold }, bst := s.bst.set i none } : State).ownHoldings a =
            s.ownHoldings a))) ∧
    (Taken h (.reopen h) s →
      let serials := b.coupons.filter (fun c => c.state == .redeemed && c.serial != 0)
      let releases : List RecordKind := serials.map (fun c => .serialRelease c.cls c.serial) ++
        (match b.points, b.member with
          | .granted p, some m => [.pointsRelease m.number p]
          | _, _ => [])
      (b.state ≠ .settled → exec (.reopen h) s = .next { s with tlp := refusedLink s h .basketState }) ∧
      (b.state = .settled → releases ≠ [] → 16 < s.cle.queue.length + releases.length →
        exec (.reopen h) s = .next { s with tlp := refusedLink s h .limit }) ∧
      (b.state = .settled → s.cle.queue.length + releases.length ≤ 16 → exec (.reopen h) s = .next
        (afterChange
          { s with cle := { s.cle with queue := s.cle.queue ++ releases.map (fun k => ⟨k, 0, s.stc.timeBase⟩) } } i
          { b with
            state := .trading, points := .none,
            coupons := b.coupons.map (fun c => if c.state = .refused then c else { c with state := .presented }) }
          (answeredLink s h .ok .none .none))))

/-- VOID_BASKET of a basket that is not FINALISING: its queued claims leave the queue and one in flight is detached, a SETTLED one's
releases are entered first, its held units are released, its slot is FREE, and an active basket's scan, waiting TOTAL and held override go
with it; a PARKED one leaves the engine and the held override as they were. A FINALISING one is refused with BASKET_STATE, a FREE slot, or
no slot while no basket is active, with NO_BASKET, and a SETTLED one whose releases find too little room with LIMIT. That the waiting
TOTAL is answered before VOID_BASKET itself is log entry 11, and that the serials are released in coupon list order is log entry 47. -/
def Obligations.VoidBasketFreesTheSlot : Prop :=
  ∀ (h : Hdr) (slot : Byte) (s : State), Taken h (.voidBasket h slot) s → Serving s →
    (slot = 0xFF → s.bst.active = none →
      exec (.voidBasket h slot) s = .next { s with tlp := refusedLink s h .noBasket }) ∧
    ∀ i : Fin 4, i.val = slot.toNat ∨ (slot = 0xFF ∧ s.bst.active = some i) →
    (s.bst.get i = none → exec (.voidBasket h slot) s = .next { s with tlp := refusedLink s h .noBasket }) ∧
    (∀ b phase tag, s.bst.get i = some b → b.state = .finalising phase tag →
      exec (.voidBasket h slot) s = .next { s with tlp := refusedLink s h .basketState }) ∧
    (∀ b, s.bst.get i = some b → (∀ phase tag, b.state ≠ .finalising phase tag) →
      let releases : List RecordKind := if b.state = .settled then
        (b.coupons.filter (fun c => c.state == .redeemed && c.serial != 0)).map (fun c => .serialRelease c.cls c.serial) ++
        (match b.points, b.member with
          | .granted p, some m => [.pointsRelease m.number p]
          | _, _ => []) else []
      (b.state = .settled → releases ≠ [] → 16 < s.cle.queue.length + releases.length →
        exec (.voidBasket h slot) s = .next { s with tlp := refusedLink s h .limit }) ∧
      (s.cle.queue.length + releases.length ≤ 16 → ∃ t, exec (.voidBasket h slot) s = .next t ∧
        t.bst = s.bst.set i none ∧
        (∀ r ∈ t.cle.queue, r.kind.slot? ≠ some i) ∧
        (s.cle.inFlight ≠ .head →
          (s.cle.queue.filter (fun r => r.kind.slot? != some i) ++ releases.map (fun k => ⟨k, 0, s.stc.timeBase⟩)) <+:
            t.cle.queue) ∧
        (∀ r rest, s.cle.inFlight = .head → s.cle.queue = r :: rest →
          t.cle.queue.head? = some { r with kind := r.kind.detachFrom i }) ∧
        (∀ a < 32, 0 < countGet a b.held →
          (∃ r ∈ t.cle.queue, r.kind = .allotRelease a (countGet a b.held)) ∨ t.cle.owed.getLsbD a = true) ∧
        t.cle.sold = s.cle.sold ∧ t.cle.inFlight = s.cle.inFlight ∧ t.cle.announcement = s.cle.announcement ∧
        t.cle.echoes = s.cle.echoes ∧ t.cle.presence = s.cle.presence ∧
        (s.bst.active = some i → t.eve = { s.eve with scan := none, wanted := false, waitingTotal := none } ∧
          t.atc = (if b.state = .held then { s.atc with held := none } else s.atc)) ∧
        (s.bst.active ≠ some i → t.eve = s.eve ∧ t.atc = s.atc) ∧
        t.tlp.responses = s.tlp.responses ++
          (if s.bst.active = some i then s.eve.waitingTotal.toList.map (fun tag => ⟨tag, .noBasket, .none, .none⟩) else []) ++
          [⟨h.tag, .ok, .none, .slot i⟩] ∧
        t.tlp.tags = s.tlp.tags ++ [h.tag] ∧
        t.stc = s.stc ∧ t.ptb = s.ptb ∧ t.pst = s.pst ∧ t.lbp = s.lbp ∧ t.tlp.notices = s.tlp.notices ∧
        t.inReset = s.inReset ∧ t.pending = s.pending ∧ t.dueChoices = s.dueChoices))

/-! ## Changing a basket -/

/-- ADD_LINE appends a LIVE line with no override and the next line number, its extended amount as its net, and raises the revision; every
operand out of range is refused with RANGE, and a full list with LIMIT. A RANGE refusal here names no field (log entry 13). -/
def Obligations.AddLineAppendsALiveLine : Prop :=
  ∀ (h : Hdr) (item : Quad) (measure : Byte) (qty : Triple) (price : Quad) (eligible : Bool) (groups : List Byte) (i : Fin 4)
    (b : Basket) (s : State),
    let c := Instr.addLine h item measure qty price eligible groups
    Taken h c s → Serving s → IsActive s i b → b.state = .trading →
    let m := measureOfByte measure
    let most := if m = .each then 9999 else 999999
    let extended := extendedAmount m price.toNat qty.toNat
    let inRange := item ≠ 0 ∧ (∀ g ∈ groups, 1 ≤ g.toNat ∧ g.toNat ≤ 63) ∧ groups.Nodup ∧
      1 ≤ qty.toNat ∧ qty.toNat ≤ most ∧ price.toNat ≤ 9999999 ∧ extended ≤ 99999999 ∧
      basketGross b.lines + extended ≤ 99999999
    (inRange → b.lines.length < 200 → exec c s = .next
      (afterChange s i
        { b with lines := b.lines ++
          [{ number := b.lines.length + 1, item := item.toNat, measure := m, qty := qty.toNat, price := price.toNat,
             groups := groups.map (·.toNat), eligible := eligible, live := true, override := none, tier := none,
             consumedUnits := 0, consumedFlag := false, shares := [], extended := extended, net := extended, points := 0 }] }
        (answeredLink s h .ok .none (.lineRevision (b.lines.length + 1) (b.revision + 1))))) ∧
    (inRange → 200 ≤ b.lines.length → exec c s = .next { s with tlp := refusedLink s h .limit }) ∧
    (¬ inRange → exec c s = .next { s with tlp := refusedLink s h .range })

/-- CHANGE_QTY and VOID_LINE act on a LIVE line of the active basket and discard its override: the one replaces its quantity, and its
amounts too while no scan has priced it, the other voids it in its place; both raise the revision. A line that does not exist or is VOIDED
is refused with LINE_STATE, a quantity of 0 or above 999,999 with RANGE before the line is looked for, and one above what the line's
measure allows with RANGE after. A RANGE refusal here names no field (log entry 13). That the lines a completed scan has priced are the
first ones of the list, counted by the model, is log entry 26. -/
def Obligations.ChangeQtyAndVoidLineActOnALiveLine : Prop :=
  ∀ (h : Hdr) (line : Byte) (i : Fin 4) (b : Basket) (s : State), Serving s → IsActive s i b → b.state = .trading →
    let noLine := line = 0 ∨ b.lines.length < line.toNat ∨ ∃ l, b.lines[line.toNat - 1]? = some l ∧ l.live = false
    let link := answeredLink s h .ok .none (.lineRevision line.toNat (b.revision + 1))
    (∀ qty : Triple, Taken h (.changeQty h line qty) s →
      (qty = 0 ∨ 999999 < qty.toNat → exec (.changeQty h line qty) s = .next { s with tlp := refusedLink s h .range }) ∧
      (1 ≤ qty.toNat → qty.toNat ≤ 999999 → noLine →
        exec (.changeQty h line qty) s = .next { s with tlp := refusedLink s h .lineState }) ∧
      (∀ l, line ≠ 0 → b.lines[line.toNat - 1]? = some l → l.live = true → 1 ≤ qty.toNat → qty.toNat ≤ 999999 →
        let extended := extendedAmount l.measure l.price qty.toNat
        let fits := (l.measure = .each → qty.toNat ≤ 9999) ∧ extended ≤ 99999999 ∧
          basketGross b.lines - l.catalogue + extended ≤ 99999999
        let changed : Line := { l with qty := qty.toNat, override := none }
        let shown : Line := if line.toNat ≤ b.pricedLines then changed
          else { changed with extended := extended, net := extended }
        (fits → exec (.changeQty h line qty) s = .next (afterChange s i
          { b with lines := b.lines.set (line.toNat - 1) shown } link)) ∧
        (¬ fits → exec (.changeQty h line qty) s = .next { s with tlp := refusedLink s h .range }))) ∧
    (Taken h (.voidLine h line) s →
      (noLine → exec (.voidLine h line) s = .next { s with tlp := refusedLink s h .lineState }) ∧
      (∀ l, line ≠ 0 → b.lines[line.toNat - 1]? = some l → l.live = true →
        exec (.voidLine h line) s = .next (afterChange s i
          { b with lines := b.lines.set (line.toNat - 1) { l with live := false, override := none } } link)))

/-- PRESENT_COUPON appends a PRESENTED coupon at the end of the list; a class of 0 is refused, a serial that the basket or the serial set
holds is a DUPLICATE, and a ninth coupon passes the LIMIT; a plain coupon may repeat. WITHDRAW_COUPON removes the coupon of a class and
serial, or the plain one of the class presented last, and closes the list up; none answering is refused with NO_COUPON, and a REFUSED one
with COUPON_REFUSED. A RANGE refusal here names no field (log entry 13). -/
def Obligations.CouponsArePresentedAndWithdrawn : Prop :=
  ∀ (h : Hdr) (cls : Byte) (serial : SerialWord) (i : Fin 4) (b : Basket) (s : State),
    Serving s → IsActive s i b → b.state = .trading →
    let n := serial.toNat
    let named (k : Coupon) : Prop := k.cls = cls.toNat ∧ k.serial = n
    let inBasket := n ≠ 0 ∧ ∃ k ∈ b.coupons, named k
    let redeemed := n ≠ 0 ∧ (cls.toNat, n) ∈ s.pst.serials
    (Taken h (.presentCoupon h cls serial) s →
      let c := Instr.presentCoupon h cls serial
      (cls = 0 → exec c s = .next { s with tlp := refusedLink s h .range }) ∧
      (cls ≠ 0 → inBasket → exec c s = .next { s with tlp := answeredLink s h .duplicate (.named .inBasket) .none }) ∧
      (cls ≠ 0 → ¬ inBasket → redeemed →
        exec c s = .next { s with tlp := answeredLink s h .duplicate (.named .redeemedSerial) .none }) ∧
      (cls ≠ 0 → ¬ inBasket → ¬ redeemed → 8 ≤ b.coupons.length →
        exec c s = .next { s with tlp := refusedLink s h .limit }) ∧
      (cls ≠ 0 → ¬ inBasket → ¬ redeemed → b.coupons.length < 8 → exec c s = .next (afterChange s i
        { b with coupons := b.coupons ++ [⟨b.nextCoupon, cls.toNat, n, .presented, 0⟩], nextCoupon := b.nextCoupon + 1 }
        (answeredLink s h .ok .none (.couponAdded (b.coupons.length + 1) (b.coupons.length + 1) (b.revision + 1)))))) ∧
    (Taken h (.withdrawCoupon h cls serial) s → b.listsLaw = true →
      let c := Instr.withdrawCoupon h cls serial
      ((∀ k ∈ b.coupons, ¬ named k) →
        exec c s = .next { s with tlp := answeredLink s h .lineState (.named .noCoupon) .none }) ∧
      (∀ before k after, b.coupons = before ++ k :: after → named k → (n ≠ 0 → ∀ x ∈ before, ¬ named x) →
        (n = 0 → ∀ x ∈ after, ¬ named x) →
        (k.state = .refused →
          exec c s = .next { s with tlp := answeredLink s h .lineState (.named .couponRefused) .none }) ∧
        (k.state ≠ .refused → exec c s = .next (afterChange s i { b with coupons := before ++ after }
          (answeredLink s h .ok .none (.couponsLeft (before ++ after).length (b.revision + 1)))))))

/-- SET_MEMBER replaces the member context whole and cancels the redemption request; CLEAR_MEMBER removes both; REDEEM_POINTS replaces the
request; each raises the revision. Without a member the last two are refused with NO_MEMBER; figures out of range are refused with RANGE.
A RANGE refusal here names no field (log entry 13). -/
def Obligations.MemberRequestsSetTheContext : Prop :=
  ∀ (h : Hdr) (i : Fin 4) (b : Basket) (s : State), Serving s → IsActive s i b → b.state = .trading →
    let link := answeredLink s h .ok .none (.revision (b.revision + 1))
    let noMember := { s with tlp := answeredLink s h .basketState (.named .noMember) .none }
    (∀ (m : MemberWord) (tier : Byte) (balance : Triple), Taken h (.setMember h m tier balance) s →
      let inRange := 1 ≤ m.toNat ∧ m.toNat ≤ 999999999999 ∧ tier.toNat ≤ 3 ∧ balance.toNat ≤ 9999999
      (inRange → exec (.setMember h m tier balance) s = .next (afterChange s i
        { b with member := some ⟨m.toNat, tier.toNat, balance.toNat⟩, request := 0 } link)) ∧
      (¬ inRange → exec (.setMember h m tier balance) s = .next { s with tlp := refusedLink s h .range })) ∧
    (Taken h (.clearMember h) s →
      (b.member = none → exec (.clearMember h) s = .next noMember) ∧
      (b.member ≠ none → exec (.clearMember h) s = .next (afterChange s i { b with member := none, request := 0 } link))) ∧
    (∀ p : Triple, Taken h (.redeemPoints h p) s →
      (b.member = none → exec (.redeemPoints h p) s = .next noMember) ∧
      (b.member ≠ none → 9999999 < p.toNat → exec (.redeemPoints h p) s = .next { s with tlp := refusedLink s h .range }) ∧
      (b.member ≠ none → p.toNat ≤ 9999999 →
        exec (.redeemPoints h p) s = .next (afterChange s i { b with request := p.toNat } link)))

/-- OVERRIDE names a line that is LIVE or the basket, with a value in the range of its kind, and a PRICE must leave the line and the
basket small enough; else it is refused. Its reduction is that of its kind on the line's catalogue amount, its gate that of its kind or of
the band of the reduction. When the LAL and the acting person's limit reach them it is applied with the acting person's stamp,
presence-bound for a PRICE of 0 or a large basket discount, replacing one of its target and kind, restarting a running timer and raising
the revision; otherwise it is held, and the basket is HELD at the same revision. A RATE stands in the low two bytes of the value and an
award in all four (log entry 14), a RANGE refusal names no field (log entry 13), and with no table held, which no trading station is, the
gate is 0 (log entry 28). -/
def Obligations.OverrideIsAppliedOrHeld : Prop :=
  ∀ (h : Hdr) (kind form line : Byte) (value : Quad) (i : Fin 4) (b : Basket) (l : Nat) (p : Acting) (s : State),
    let c := Instr.override h kind form line value
    Taken h c s → Serving s → IsActive s i b → b.state = .trading → s.atc.lal = some l → s.atc.acting = some p →
    let ofLine := kind.toNat ≤ 1
    let x := value.toNat
    let rate := x % 65536
    let onLine : LineOverride := if kind = 0 then .price x else if form = 0 then .discountAmount x else .discountRate rate
    let request : OverrideRequest :=
      if ofLine then .line line.toNat onLine else if kind = 2 then .basketDiscount x else .pointsAward x
    let noLine := ofLine ∧ (line = 0 ∨ b.lines.length < line.toNat ∨ ∃ k, b.lines[line.toNat - 1]? = some k ∧ k.live = false)
    let inRange := if kind = 0 then x ≤ 9999999
      else if kind = 1 ∧ form ≠ 0 then 1 ≤ rate ∧ rate ≤ 10000
      else if kind.toNat ≤ 2 then 1 ≤ x ∧ x ≤ 99999999
      else 1 ≤ x ∧ x ≤ 99999
    (noLine → exec c s = .next { s with tlp := refusedLink s h .lineState }) ∧
    ∀ target : Line, (ofLine → line ≠ 0 ∧ b.lines[line.toNat - 1]? = some target ∧ target.live = true) →
    let e := extendedAmount target.measure target.price target.qty
    let atPrice := extendedAmount target.measure x target.qty
    let staged (k : Line) : Nat := stageAmount k.measure k.price k.qty (k.override.map (·.value))
    let sum := ((b.lines.filter (·.live)).map staged).sum
    let tooLarge := kind = 0 ∧ (99999999 < atPrice ∨ 99999999 < sum - staged target + atPrice)
    let passes := inRange ∧ ¬ tooLarge
    let reduction := if kind = 0 then (if x < target.price then e - atPrice else 0)
      else if kind = 1 then (if form = 0 then x else (e * rate + 5000) / 10000)
      else if kind = 2 then x else 0
    let gateIn (t : Header) : Nat := if kind = 2 then t.gBasket else if 2 < kind.toNat then t.gPoints
      else if kind = 0 ∧ x = 0 then t.gZero
      else if kind = 0 ∧ target.price < x then t.gIncrease
      else if reduction * 10000 ≤ t.band1 * e then t.g1
      else if reduction * 10000 ≤ t.band2 * e then t.g2
      else t.g3
    let gate := (s.ptb.header.map gateIn).getD 0
    let bound := (kind = 0 ∧ x = 0) ∨ (kind = 2 ∧ (s.ptb.header.map (·.threshold)).getD 0 < x)
    let stamp : Stamp := ⟨p.staff, p.level, s.atc.stack.length, decide bound⟩
    let placed : Basket := if ofLine then
        { b with lines := b.lines.set (line.toNat - 1) { target with override := some ⟨onLine, reduction, stamp⟩ } }
      else if kind = 2 then { b with discount := some ⟨x, reduction, stamp⟩ }
      else { b with award := some ⟨x, reduction, stamp⟩ }
    let timer := if s.atc.stack = [] then s.atc.timer else some s.timeoutMs
    let report : AppliedReport :=
      { kind := kind.toNat, line := if ofLine then some line.toNat else none, reduction := reduction, gate := gate,
        stamp := stamp, revision := b.revision + 1 }
    (¬ passes → exec c s = .next { s with tlp := refusedLink s h .range }) ∧
    (passes → l ≤ gate → reduction ≤ p.limit →
      exec c s = .next (afterChange { s with atc := { s.atc with timer := timer } } i placed
        (answeredLink s h .ok (.named .applied) (.applied report)))) ∧
    (passes → ¬ (l ≤ gate ∧ reduction ≤ p.limit) → exec c s = .next
      { s with
        atc := { s.atc with held := some ⟨request, reduction, gate, i⟩ },
        bst := s.bst.set i (some { b with state := .held }),
        tlp := answeredLink s h .ok (.named .heldForAuthority) (.heldForAuthority gate reduction) })

/-- CANCEL_OVERRIDE, checked in its order, discards the held override and returns the basket from HELD to TRADING at the same revision; no
scan follows, and the stack and the timer stand. -/
def Obligations.CancelOverrideDiscardsTheHeldOverride : Prop :=
  ∀ (h : Hdr) (s : State), Offered h s →
    FirstChecks h (.cancelOverride h) [.trading] true s ∧
    (Taken h (.cancelOverride h) s → Serving s →
      (s.bst.active = none → exec (.cancelOverride h) s = .next { s with tlp := refusedLink s h .noBasket }) ∧
      (∀ i b, IsActive s i b → b.state ≠ .held →
        exec (.cancelOverride h) s = .next { s with tlp := refusedLink s h .basketState }) ∧
      (∀ i b o, IsActive s i b → b.state = .held → s.atc.held = some o → exec (.cancelOverride h) s = .next
        { s with
          atc := { s.atc with held := none },
          bst := s.bst.set i (some { b with state := .trading }),
          tlp := answeredLink s h .ok .none (.cancelled o.request.kind o.request.line?) }))

/-- TOTAL: refused with NO_BASKET or, while one waits, BUSY; answered at once when the engine is IDLE and the summary current; otherwise
it waits and counts as outstanding. -/
def Obligations.TotalIsAnsweredOrWaits : Prop :=
  ∀ (h : Hdr) (s : State), Taken h (.total h) s → Serving s →
    (s.bst.active = none → exec (.total h) s = .next { s with tlp := refusedLink s h .noBasket }) ∧
    (∀ i b, IsActive s i b → s.eve.waitingTotal ≠ none →
      exec (.total h) s = .next { s with tlp := refusedLink s h .busy }) ∧
    (∀ i b, IsActive s i b → s.eve.waitingTotal = none → s.eve.scan = none → b.summary.revision = b.revision →
      exec (.total h) s = .next { s with tlp := answeredLink s h .ok .none (.total i b.summary) }) ∧
    (∀ i b, IsActive s i b → s.eve.waitingTotal = none → (s.eve.scan ≠ none ∨ b.summary.revision ≠ b.revision) →
      exec (.total h) s = .next { s with eve := { s.eve with waitingTotal := some h.tag }, tlp := deferredLink s h })

/-! ## Finalisation -/

/-- FINALISE takes the active TRADING basket to FINALISING at F1 and defers its response; with no active basket it is refused with
NO_BASKET, from another state with BASKET_STATE. F3, once no coupon is REDEEMING, no points claim waits and the summary is current, goes
back to F2 when a coupon is APPLYING or unclaimed points are to be redeemed, and on to F4 otherwise. That an F2 decided on by F3 is a
phase of its own until it begins is log entry 21. -/
def Obligations.FinaliseStartsAndF3Decides : Prop :=
  ∀ (h : Hdr) (s : State),
    (Taken h (.finalise h) s → Serving s → s.bst.active = none →
      exec (.finalise h) s = .next { s with tlp := refusedLink s h .noBasket }) ∧
    ∀ (i : Fin 4) (b : Basket), IsActive s i b →
    (Taken h (.finalise h) s → Serving s →
      (b.state = .trading → exec (.finalise h) s = .next
        { s with bst := s.bst.set i (some { b with state := .finalising .f1 h.tag }), tlp := deferredLink s h }) ∧
      (b.state ≠ .trading → exec (.finalise h) s = .next { s with tlp := refusedLink s h .basketState })) ∧
    (∀ tag, s.inReset = false → b.state = .finalising .f3 tag →
      let done := (∀ c ∈ b.coupons, c.state ≠ .redeeming) ∧ s.hasPointsClaim i = false ∧ s.eve.scan = none ∧
        b.summary.revision = b.revision
      let again := (∃ c ∈ b.coupons, c.state = .applying) ∨ (b.points = .none ∧ 0 < b.summary.redemptionPoints)
      let goTo (phase : FinalPhase) : State := { s with bst := s.bst.set i (some { b with state := .finalising phase tag }) }
      (done → again → exec .finaliseF3 s = .next (goTo .f2Due)) ∧
      (done → ¬ again → exec .finaliseF3 s = .next (goTo .f4)) ∧
      (¬ done → exec .finaliseF3 s = .next s))

/-- F2 begins from F1 or after F3, when the conditions of that phase hold, on the whole coupon list, and goes on from the coupon it waited
at. Each APPLYING coupon with a serial becomes REDEEMING and has its claim entered, in list order, each plain one becomes REDEEMED, and
the points claim follows; with room for all of them the revision is raised once if F2 has changed a coupon's state, and F3 comes. The
first claim that finds no room waits, with no revision raised, and the coupons and points after it wait in turn. Where claims cannot be
sent each is resolved at once by its class's policy and takes no place: DENY makes the coupon, or the points outcome, REFUSED; ALLOW
grants what the tables do not object to. F2 decided on by F3 is a phase of its own until it begins (log entry 21). -/
def Obligations.F2EntersTheClaimsInOrder : Prop :=
  ∀ (i : Fin 4) (b : Basket) (tag : Byte) (cursor : Nat) (changed : Bool) (s : State), s.inReset = false → IsActive s i b →
    let priced := s.eve.scan = none ∧ b.summary.revision = b.revision
    let fresh := cursor = 0 ∧ changed = false
    (b.state = .finalising .f1 tag ∧ fresh ∧ priced ∧ s.hasAllotClaim i = false) ∨
      (b.state = .finalising .f2Due tag ∧ fresh ∧ priced ∧ s.hasPointsClaim i = false ∧
        ∀ c ∈ b.coupons, c.state ≠ .redeeming) ∨
      b.state = .finalising (.f2 cursor changed) tag →
    let ahead := b.coupons.drop cursor
    let claimed (cs : List Coupon) : List Coupon := cs.filter (fun c => c.state == .applying && c.serial != 0)
    let claimsOf (cs : List Coupon) : List RecordKind := (claimed cs).map (fun c => .serialClaim (some i) c.cls c.serial)
    let points : List RecordKind := match b.points, b.member with
      | .none, some m => if b.summary.redemptionPoints = 0 then [] else [.pointsClaim (some i) m.number b.summary.redemptionPoints]
      | _, _ => []
    let entered (claims : List RecordKind) : State := { s with
      cle := { s.cle with queue := s.cle.queue ++ claims.map (fun k => ⟨k, 0, s.stc.timeBase⟩) } }
    let as (serial : CouponState) (c : Coupon) : Coupon :=
      if c.state = .applying then { c with state := if c.serial = 0 then .redeemed else serial } else c
    let after (phase : FinalPhase) (coupons : List Coupon) : Basket :=
      { b with state := .finalising phase tag, coupons := b.coupons.take cursor ++ coupons }
    let changes (cs : List Coupon) : Prop := changed = true ∨ ∃ c ∈ cs, c.state = .applying
    (s.cannotSend = false →
      (s.cle.queue.length + (claimsOf ahead ++ points).length ≤ 16 →
        (changes ahead → exec .finaliseF2 s = .next
          (afterChange (entered (claimsOf ahead ++ points)) i (after .f3 (ahead.map (as .redeeming))) s.tlp)) ∧
        (¬ changes ahead → exec .finaliseF2 s = .next
          { entered points with bst := s.bst.set i (some (after .f3 ahead)) })) ∧
      (∀ taken waiting, ahead = taken ++ waiting → s.cle.queue.length + (claimsOf taken).length = 16 →
        (waiting = [] ∧ points ≠ []) ∨ (∃ c rest, waiting = c :: rest ∧ c.state = .applying ∧ c.serial ≠ 0) →
        exec .finaliseF2 s = .next { entered (claimsOf taken) with
          bst := s.bst.set i (some (after
            (.f2 (cursor + taken.length) (changed || taken.any (fun c => c.state == .applying)))
            (taken.map (as .redeeming) ++ waiting))) })) ∧
    (s.cannotSend = true →
      ((b.coupons.filter (fun c => c.serial != 0)).map (fun c => (c.cls, c.serial))).Nodup →
      (allows s (.serialClaim (some i) 0 0) = false → allows s (.pointsClaim (some i) 0 0) = false →
        let b' : Basket := { after .f3 (ahead.map (as .refused)) with
          points := if points = [] then b.points else .refused }
        (changes ahead ∨ points ≠ [] → exec .finaliseF2 s = .next (afterChange s i b' s.tlp)) ∧
        (¬ changes ahead → points = [] → exec .finaliseF2 s = .next { s with bst := s.bst.set i (some b') })) ∧
      (∀ c, claimed ahead = [c] → points = [] → allows s (.serialClaim (some i) c.cls c.serial) = true →
        (¬ Objected s (.serialClaim c.cls c.serial) → exec .finaliseF2 s = .next
          (afterChange { s with pst := withSerial s.pst c.cls c.serial } i
            { after .f3 (ahead.map (as .redeemed)) with localMark := true } s.tlp)) ∧
        (Objected s (.serialClaim c.cls c.serial) → exec .finaliseF2 s = .next
          (afterChange s i (after .f3 (ahead.map (as .refused))) s.tlp))) ∧
      (∀ m p, claimed ahead = [] → points = [.pointsClaim (some i) m p] → allows s (.pointsClaim (some i) m p) = true →
        ¬ Objected s (.pointsClaim m p) → exec .finaliseF2 s = .next
          (afterChange { s with pst := withPoints s.pst m p } i
            { after .f3 (ahead.map (as .redeemed)) with localMark := true, points := .granted p } s.tlp)))

/-- F4 with the summary current settles the basket on it: granted points beyond those redeemed are released, the outcome is lowered to
those redeemed, the overrides are no longer presence-bound, and FINALISE is answered with the summary; it waits while a release it needs
finds no room. That F4 does not look again at what F3 decided is log entry 37. -/
def Obligations.F4SettlesOnTheCurrentSummary : Prop :=
  ∀ (i : Fin 4) (b : Basket) (tag : Byte) (s : State), s.inReset = false → IsActive s i b →
    b.state = .finalising .f4 tag → s.eve.scan = none → b.summary.revision = b.revision →
    let redeemed := b.summary.redemptionPoints
    let surplus : List RecordKind := match b.points, b.member with
      | .granted p, some m => if redeemed < p then [.pointsRelease m.number (p - redeemed)] else []
      | _, _ => []
    let unbound {α : Type} (o : Option (Applied α)) : Option (Applied α) :=
      o.map (fun a => { a with stamp := { a.stamp with bound := false } })
    (s.cle.queue.length + surplus.length ≤ 16 → exec .finaliseF4 s = .next
      { s with
        cle := { s.cle with queue := s.cle.queue ++ surplus.map (fun k => ⟨k, 0, s.stc.timeBase⟩) },
        bst := s.bst.set i (some
          { b with
            state := .settled,
            points := (match b.points with
              | .granted p => if redeemed = 0 then .none else .granted (min p redeemed)
              | o => o),
            lines := b.lines.map (fun l => { l with override := unbound l.override }),
            discount := unbound b.discount, award := unbound b.award }),
        tlp := { s.tlp with responses := s.tlp.responses ++ [⟨tag, .ok, .none, .settled b.summary⟩] } }) ∧
    (surplus ≠ [] → 16 ≤ s.cle.queue.length → exec .finaliseF4 s = .next s)

/-! ## Claims and peers -/

/-- PURGE_STATION, checked in its order, enters a PURGE of its target with its tag at the tail of the queue and defers its response; the
elevation timer is not restarted. A RANGE refusal here names no field (log entry 13). -/
def Obligations.PurgeStationEntersARecord : Prop :=
  ∀ (h : Hdr) (target : Byte) (s : State), Offered h s →
    let c := Instr.purgeStation h target
    let inRange := 1 ≤ target.toNat ∧ target.toNat ≤ 32
    FirstChecks h c [.joining, .trading] true s ∧
    (∀ l, Taken h c s → s.stc.day = .joining ∨ s.stc.day = .trading → s.atc.operator ≠ none → s.atc.lal = some l →
      (1 < l → exec c s = .next { s with tlp := answeredLink s h .authority (.named .level) .none }) ∧
      (l ≤ 1 → ¬ inRange → exec c s = .next { s with tlp := refusedLink s h .range }) ∧
      (l ≤ 1 → inRange → (∃ ms, s.lbp.bus = some (.faulted ms)) ∨ s.pst.conflict = true →
        exec c s = .next { s with tlp := refusedLink s h .laneDown }) ∧
      (l ≤ 1 → inRange → (∀ ms, s.lbp.bus ≠ some (.faulted ms)) → s.pst.conflict = false →
        (16 ≤ s.cle.queue.length → exec c s = .next { s with tlp := refusedLink s h .limit }) ∧
        (s.cle.queue.length < 16 → exec c s = .next
          { s with
            cle := { s.cle with queue := s.cle.queue ++ [⟨.purge target.toNat h.tag, 0, s.stc.timeBase⟩] },
            tlp := deferredLink s h })))

/-! ## The scan -/

/-- Stage A prices each LIVE line of the reading by its override and goes to the window's first entry in stage B; stage E takes the basket
discount, limited to the net of the LIVE lines, as one adjustment shared by their nets, when it finds room, and goes to stage F's window
with a member, or to its points step without; the points step gives the points and goes to stage G. Only the engine changes. The position
after a step names the step about to be taken (log entry 22), and a LINE_DISCOUNT line's extended amount is that of its catalogue price
(log entry 23). The law of the priced basket holds after stage A on a fresh reading, and each visit, stage E and the points step keep
it. -/
def Obligations.StagesAEAndFWorkOnTheLines : Prop :=
  ∀ (sc : Scan) (s : State), s.inReset = false → s.eve.scan = some sc →
    let goTo (sc' : Scan) (p : Position) : State := { s with eve := { s.eve with scan := some sc', position := p } }
    let weights := sc.lines.map (fun l => if l.live then l.net else 0)
    let rate (m : Member) : Nat := ((s.ptb.header.map (·.rates)).getD []).getD m.tier 0
    let earned (m : Member) (l : WLine) : Nat := if l.live = true ∧ l.eligible = true
      then l.net * rate m * (if l.override = none then l.factor else 1) / 100 else 0
    let priceOf (l : WLine) : Nat := match l.override with
      | some (.price p) => p
      | _ => l.price
    let extendedOf (l : WLine) : Nat :=
      if l.measure = .each then priceOf l * l.qty else (priceOf l * l.qty + 500) / 1000
    let staged (l : WLine) : Nat := match l.override with
      | some (.discountAmount d) => extendedOf l - d
      | some (.discountRate p) => extendedOf l - (extendedOf l * p + 5000) / 10000
      | _ => extendedOf l
    let afterE : Position := if sc.member = none then .f else .visit .f sc.first
    let LawAfter (c : Instr) : Prop :=
      ∃ t sc', exec c s = .next t ∧ t.eve.scan = some sc' ∧ PricedLaw sc' t.eve.position
    (s.eve.position = .a → exec .stageA s = .next (goTo
      { sc with lines := sc.lines.map (fun l => if l.live then
          { l with base := priceOf l, extended := extendedOf l, stageA := staged l, net := staged l } else l) }
      (.visit .b sc.first))) ∧
    (s.eve.position = .e →
      (sc.discount = none ∨ sc.discount = some 0 ∨ weights.sum = 0 → exec .stageE s = .next (goTo sc afterE)) ∧
      (∀ d, sc.discount = some d → 0 < d → 0 < weights.sum →
        let amount := min d weights.sum
        let parts := apportion amount weights
        (RoomFor sc parts → exec .stageE s = .next (goTo
          { adjusted sc none .basketDiscount amount none none parts with stageE := amount } afterE)) ∧
        (¬ RoomFor sc parts → exec .stageE s = .next (goTo { sc with truncated := true } afterE)))) ∧
    (s.eve.position = .f →
      (sc.member = none → exec .stageFPoints s = .next (goTo
        { sc with lines := sc.lines.map (fun l => { l with points := 0 }), pointsEarned := 0 } .g)) ∧
      (∀ m, sc.member = some m → exec .stageFPoints s = .next (goTo
        { sc with lines := sc.lines.map (fun l => { l with points := earned m l }),
                  pointsEarned := min ((sc.lines.map (earned m)).sum + sc.award.getD 0) 9999999 } .g))) ∧
    (s.eve.position = .a → sc.adjustments = [] → sc.stageE = 0 →
      (∀ l ∈ sc.lines, l.tier = none ∧ l.consumedUnits = 0 ∧ l.consumedFlag = false) → LawAfter .stageA) ∧
    (∀ stage n, s.eve.position = .visit stage n → PricedLaw sc (.visit stage n) →
      (∀ e, tableGet n s.ptb.entries = some e → rateBounded e) → LawAfter .entryVisit) ∧
    (s.eve.position = .e → PricedLaw sc .e → LawAfter .stageE) ∧
    (s.eve.position = .f → PricedLaw sc .f → LawAfter .stageFPoints)

/-- A visit passes over an empty entry, one of another stage, one whose mask lacks the latched band and one whose guard does not hold;
otherwise the entry acts by its kind: QUANTITY_BREAK tiers its lines, MULTIBUY forms its sets from the dearest free units, ALLOTMENT_PRICE
sets its want and prices the units held, PERCENT_OFF and AMOUNT_OFF take their discount and COUPON each matched coupon's value, shared
among their lines, and POINTS_MULTIPLIER offers its factor. The position goes to the next entry in window order, wrapping at 255, or to
the next stage; it names the step about to be taken (log entry 22). Under the skip-discounted flag a line whose part was 0 takes part
again (log entry 42). -/
def Obligations.AVisitActsByTheEntryOrPassesOver : Prop :=
  ∀ (sc : Scan) (stage : VisitStage) (n : Nat) (s : State), s.inReset = false → s.eve.scan = some sc →
    s.eve.position = .visit stage n →
    let next : Position := if n = sc.last then
        (match stage with
          | .b => .visit .c sc.first
          | .c => .visit .d sc.first
          | .d => .e
          | .f => .f)
      else .visit stage ((n + 1) % 256)
    let goTo (sc' : Scan) : State := { s with eve := { s.eve with scan := some sc', position := next } }
    let lane := (s.stc.config.map (fun c => c.laneClass.number)).getD 0
    let held (a : Nat) : Nat := ((s.bst.get sc.slot).map (fun b => countGet a b.held)).getD 0
    let stageOf (e : PromoEntry) : VisitStage := match e.kind with
      | .quantityBreak _ _ _ => .b
      | .multibuy _ _ | .allotmentPrice _ _ | .percentOff _ _ => .c
      | .amountOff _ _ | .coupon _ _ _ => .d
      | .pointsMultiplier _ => .f
    let applies (e : PromoEntry) : Prop :=
      stageOf e = stage ∧ e.mask.getLsbD sc.band = true ∧ ∀ t ∈ e.terms, termHolds sc e.group lane t = true
    (tableGet n s.ptb.entries = none → exec .entryVisit s = .next (goTo sc)) ∧
    (∀ e, tableGet n s.ptb.entries = some e → ¬ applies e → exec .entryVisit s = .next (goTo sc)) ∧
    (∀ e, tableGet n s.ptb.entries = some e → applies e →
      ∃ sc', exec .entryVisit s = .next (goTo sc') ∧ EntryActs n e held sc sc')

/-- A guard term compares the figure of its measure with its constant as its relation says. The figures come from the reading: the gross and
the number of its LIVE lines, the net and the units of those in the entry's group, a measured line counting as one unit and group 0 as
every line, the tier of the latched member, and the number of the station's lane class. A MEMBER_TIER term is false with no member,
whatever its relation, so MEMBER_TIER UNEQUAL 3 admits the other tiers alone; an entry of the stage and band applies exactly when every
one of its terms is true, so always with no terms. -/
def Obligations.GuardTermsCompareAsTheirRelationSays : Prop :=
  ∀ (sc : Scan) (group lane : Nat) (t : GuardTerm),
    let live := sc.lines.filter (·.live)
    let ofGroup := live.filter (fun l => group == 0 || l.groups.contains group)
    let catalogue (l : WLine) : Nat := if l.measure = .each then l.price * l.qty else (l.price * l.qty + 500) / 1000
    let figure? : Option Nat := match t.measure with
      | .basketGross => some (live.map catalogue).sum
      | .liveLines => some live.length
      | .groupSpend => some (ofGroup.map (·.net)).sum
      | .groupUnits => some (ofGroup.map (fun l => if l.measure = .each then l.qty else 1)).sum
      | .memberTier => sc.member.map (·.tier)
      | .laneClass => some lane
    guardFigure sc group lane t.measure = figure? ∧
    (∀ (s : State) (c : Configuration), s.stc.config = some c → s.laneFigure = match c.laneClass with
      | .till => 0
      | .tradeCounter => 1
      | .selfCheckout => 2
      | .garden => 3) ∧
    (∀ figure, figure? = some figure →
      (termHolds sc group lane t = true ↔ match t.relation with
        | .equal => figure = t.constant
        | .unequal => figure ≠ t.constant
        | .above => t.constant < figure
        | .atLeast => t.constant ≤ figure
        | .below => figure < t.constant
        | .atMost => figure ≤ t.constant)) ∧
    (t.measure = .memberTier → sc.member = none → termHolds sc group lane t = false) ∧
    (∀ m, t = ⟨.memberTier, .unequal, 3⟩ → sc.member = some m → (termHolds sc group lane t = true ↔ m.tier ≠ 3)) ∧
    (∀ stage e, e.kind.stage = stage → e.mask.getLsbD sc.band = true →
      (entryApplies sc lane stage e = true ↔ ∀ u ∈ e.terms, termHolds sc e.group lane u = true) ∧
      (e.terms = [] → entryApplies sc lane stage e = true))

/-- Apportionment gives each participant a share of at most its weight, none to a weight of 0, and shares that sum to the amount; a share
is the floor of its proportion or one more, the units left over going to the largest remainders and, among equal ones, to the earlier
participant; with no weight at all nothing is given. -/
def Obligations.ApportionmentSharesTheWholeAmount : Prop :=
  ∀ (amount : Nat) (weights : List Nat),
    (apportion amount weights).length = weights.length ∧
    (weights.sum = 0 → ∀ x ∈ apportion amount weights, x = 0) ∧
    (0 < weights.sum → amount ≤ weights.sum →
      (apportion amount weights).sum = amount ∧
      ∀ i (hw : i < weights.length) (hp : i < (apportion amount weights).length),
        (apportion amount weights)[i] ≤ weights[i] ∧
        (amount * weights[i] / weights.sum = (apportion amount weights)[i] ∨
          amount * weights[i] / weights.sum + 1 = (apportion amount weights)[i]) ∧
        (weights[i] = 0 → (apportion amount weights)[i] = 0) ∧
        ∀ j (hj : j < weights.length) (hq : j < (apportion amount weights).length),
          (apportion amount weights)[i] = amount * weights[i] / weights.sum + 1 →
          (apportion amount weights)[j] = amount * weights[j] / weights.sum →
          amount * weights[j] % weights.sum < amount * weights[i] % weights.sum ∨
            (amount * weights[j] % weights.sum = amount * weights[i] % weights.sum ∧ i < j))

/-- Stage G gives whole blocks: no more points than the latched request, the granted points, the balance or the room under the cap, from
which a grant of this basket's own does not take, and no more value than the net. With no member or a REFUSED outcome it gives none. -/
def Obligations.RedemptionIsWholeBlocksWithinEveryLimit : Prop :=
  ∀ (sc : Scan) (h : Header) (s : State), s.ptb.header = some h → 0 < h.blockSize → 0 < h.blockValue →
    let today (m : Member) : Nat := redeemedBy s.pst m.number
    let net := ((sc.lines.filter (·.live)).map (·.net)).sum
    ∃ blocks, s.redemption sc = (blocks * h.blockSize, blocks * h.blockValue) ∧
      blocks * h.blockSize ≤ sc.request ∧ blocks * h.blockValue ≤ net ∧
      (sc.member = none → blocks = 0) ∧ (sc.outcome = .refused → blocks = 0) ∧
      (∀ m, sc.member = some m → blocks * h.blockSize ≤ m.balance ∧ blocks * h.blockSize ≤ h.cap) ∧
      (∀ g, sc.outcome = .granted g → blocks * h.blockSize ≤ g) ∧
      (∀ m, sc.member = some m → sc.outcome = .none →
        blocks = min (min (min sc.request m.balance) (h.cap - today m) / h.blockSize) (net / h.blockValue)) ∧
      (∀ m g, sc.member = some m → sc.outcome = .granted g →
        blocks = min (min (min (min sc.request g) m.balance) (h.cap - (today m - g)) / h.blockSize) (net / h.blockValue))

/-- Completion publishes the scan in the basket of its subject: the adjustments, the summary at the latched revision, the lines and the
coupons; a current one clears the withdrawal marker. On the law of the priced basket the published figures agree. The wants are
reconciled, lowest allotment first: a claim is entered for what is wanted beyond the held and pending units of a basket that is TRADING or
HELD, a surplus leaves the basket with a release; a full queue enters nothing, and owes a HOLDINGS for a surplus; where claims cannot be
sent one is resolved at once. A release raises the revision. No allotment's held and pending units pass the limit that they and the want
keep. An engine that wanted another scan, or meets a raise, is SCANNING after it, and IDLE otherwise, when a waiting TOTAL is answered if
the summary is current. -/
def Obligations.CompletionPublishesTheScan : Prop :=
  ∀ (sc : Scan) (b : Basket) (s : State), s.inReset = false → s.eve.scan = some sc → s.eve.position = .g →
    IsActive s sc.slot b → b.state.scanned = true →
    let points := (s.redemption sc).1
    let value := (s.redemption sc).2
    let live := sc.lines.filter (·.live)
    let net := (live.map (·.net)).sum
    let gross := (live.map (fun l => extendedAmount l.measure l.price l.qty)).sum
    let summary : Summary :=
      { revision := sc.revision, gross := gross,
        overrideReduction := (gross : Int) - (live.map (·.stageA)).sum + sc.stageE,
        promotionDiscount := ((sc.adjustments.filter (fun a => a.kind != .basketDiscount)).map (·.amount)).sum,
        net := net, redemptionPoints := points, redemptionValue := value, payable := net - value,
        pointsEarned := sc.pointsEarned, liveLines := live.length,
        applyingCoupons := (sc.coupons.filter (fun c => c.amount != 0)).length,
        flags := { provisional := sc.provisional, truncated := sc.truncated, withdrawn := b.withdrawn,
                   redeemClamped := decide (points < sc.request), localDecision := b.localMark } }
    let lineOf (w : WLine) (l : Line) : Line := if l.live
      then { l with tier := w.tier, consumedUnits := w.consumedUnits, consumedFlag := w.consumedFlag, shares := w.shares,
                    extended := w.extended, net := w.net, points := w.points }
      else { l with tier := none, consumedUnits := 0, consumedFlag := false, shares := [], extended := 0, net := 0, points := 0 }
    let couponOf (w : WCoupon) (c : Coupon) : Coupon :=
      if c.state = .refused then { c with applied := 0 }
      else if c.state = .redeeming ∨ c.state = .redeemed then { c with applied := w.amount }
      else { c with state := if w.amount = 0 then .notApplicable else .applying, applied := w.amount }
    let held (a : Nat) : Nat := countGet a b.held
    let pending (t : State) (a : Nat) : Nat := (t.cle.queue.map (fun r => match r.kind with
      | .allotClaim (some j) x n => if j = sc.slot ∧ x = a then n else 0
      | _ => 0)).sum
    let want (a : Nat) : Nat := countGet a sc.wants
    let wants (a : Nat) : Prop := held a + pending s a < want a ∧ (b.state = .trading ∨ b.state = .held)
    let surplus : Prop := ∃ a < 32, want a < held a
    let records : List RecordKind := (List.range 32).flatMap (fun a =>
      if held a + pending s a < want a then
        (if b.state = .trading ∨ b.state = .held then
          [.allotClaim (some sc.slot) a (want a - held a - pending s a)] else [])
      else if want a < held a then [.allotRelease a (held a - want a)] else [])
    ∃ t b', exec .stageG s = .next t ∧ t.bst.get sc.slot = some b' ∧ (∀ i, i ≠ sc.slot → t.bst.get i = s.bst.get i) ∧
      (b'.adjustments = sc.adjustments ∧ b'.summary = summary ∧ b'.pricedLines = sc.lines.length ∧
        (∀ n : Nat, b'.lines[n]? = match sc.lines[n]?, b.lines[n]? with
          | some w, some l => some (lineOf w l)
          | _, l => l) ∧
        b'.coupons = b.coupons.map (fun c => match sc.coupons.find? (fun w => w.id == c.id) with
          | some w => couponOf w c
          | none => c) ∧
        b'.withdrawn = (b.withdrawn && sc.revision != b.revision) ∧ b'.member = b.member ∧ b'.request = b.request ∧
        b'.points = b.points ∧ b'.discount = b.discount ∧ b'.award = b.award) ∧
      (PricedLaw sc .g → (summary.gross : Int) - summary.overrideReduction - summary.promotionDiscount = summary.net ∧
        summary.payable + summary.redemptionValue = summary.net) ∧
      (s.cannotSend = false ∨ (∀ a < 32, ¬ wants a) → s.cle.queue.length + records.length ≤ 16 →
        t.cle = { s.cle with queue := s.cle.queue ++ records.map (fun k => ⟨k, 0, s.stc.timeBase⟩) }) ∧
      (s.cannotSend = false ∨ (∀ a < 32, ¬ wants a) → 16 ≤ s.cle.queue.length → t.cle.queue = s.cle.queue ∧
        ∀ a < 32, t.cle.owed.getLsbD a = (s.cle.owed.getLsbD a || decide (want a < held a))) ∧
      (s.cannotSend = false ∨ (∀ a < 32, ¬ wants a) →
        (∀ a < 32, countGet a b'.held = if want a < held a then want a else held a) ∧ b'.localMark = b.localMark ∧
        (surplus → b'.revision = b.revision + 1 ∧ ∀ tag, b.state = .finalising .f4 tag → b'.state = .finalising .f3 tag) ∧
        (¬ surplus → b'.revision = b.revision ∧ b'.state = b.state)) ∧
      (∀ a < 32, s.cannotSend = true → wants a → (∀ x < 32, x ≠ a → ¬ wants x) → ¬ surplus →
        let n := want a - held a - pending s a
        let granted := allows s (.allotClaim none a n) = true ∧ ¬ Objected s (.allotClaim a n)
        t.cle.queue = s.cle.queue ∧
        (granted → countGet a b'.held = held a + n ∧ b'.localMark = true ∧ b'.revision = b.revision + 1 ∧
          t.cle.owed.getLsbD a = true) ∧
        (¬ granted → b'.held = b.held ∧ b'.localMark = b.localMark ∧ b'.revision = b.revision)) ∧
      (∀ a < 32, ∀ limit, held a + pending s a ≤ limit → want a ≤ limit → countGet a b'.held + pending t a ≤ limit) ∧
      (let again := s.eve.wanted = true ∨ b'.revision ≠ b.revision
       (again → t.eve.scan = some (newScan sc.slot s.stc b') ∧ t.eve.position = .a) ∧
       (¬ again → t.eve.scan = none ∧ t.eve.position = .g) ∧
       (∀ tag, s.eve.waitingTotal = some tag → ¬ again → sc.revision = b'.revision →
         t.eve.waitingTotal = none ∧
         t.tlp.responses = s.tlp.responses ++ [⟨tag, .ok, .none, .total sc.slot summary⟩]) ∧
       (s.eve.waitingTotal = none ∨ again ∨ sc.revision ≠ b'.revision →
         t.eve.waitingTotal = s.eve.waitingTotal ∧ t.tlp = s.tlp)) ∧
      t.eve.wanted = false ∧ t.stc = s.stc ∧ t.ptb = s.ptb ∧ t.atc = s.atc ∧ t.pst = s.pst ∧ t.lbp = s.lbp ∧
      t.cle.sold = s.cle.sold ∧ t.tlp.tags = s.tlp.tags ∧ t.tlp.notices = s.tlp.notices ∧
      t.inReset = s.inReset ∧ t.pending = s.pending ∧ t.dueChoices = s.dueChoices

/-! ## The lane bus -/

/-- The lines as the port sees them: a start begins a frame in hand and makes the bus BUSY, any other fall in IDLE makes it BUSY, the idle
interval makes it IDLE, and a frame that ends early is dropped, the bus left as it was. While the station sends a frame of its own it
hears none of them. That a fall without a start changes nothing in BUSY is log entry 18; that START_SEEN, BUS_IDLE and TRUNCATED_FRAME
change nothing while the station sends is the model's choice, log entry 5. -/
def Obligations.ThePortFollowsTheLines : Prop :=
  ∀ s : State, s.inReset = false → (s.lbp.bus = some .busy ∨ s.lbp.bus = some .idle) →
    ((∀ f, s.lbp.frame ≠ .sending f) →
      exec (.startSeen true) s = .next
        { s with lbp := { s.lbp with bus := some .busy, quiet := false, frame := .receiving } } ∧
      (s.lbp.bus = some .idle → exec (.startSeen false) s = .next
        { s with lbp := { s.lbp with bus := some .busy, quiet := false } }) ∧
      (s.lbp.bus = some .busy → exec (.startSeen false) s = .next s) ∧
      ((∀ bytes v ms, s.lbp.frame ≠ .stretching bytes v ms) → exec .busIdle s = .next
        { s with lbp := { s.lbp with bus := some .idle, quiet := true, frame := .none } }) ∧
      exec .truncatedFrame s = .next { s with lbp := { s.lbp with frame := .none } }) ∧
    (∀ f, s.lbp.frame = .sending f →
      (∀ start, exec (.startSeen start) s = .next s) ∧ exec .busIdle s = .next s ∧ exec .truncatedFrame s = .next s)

/-- FRAME_BEGIN on an idle quiet bus takes the frame the claims engine offers and opens a tenure: the head record when the tables do not
object to it; with an empty queue the announcement in hand, else a new one, owed holdings before echoes before a due PRESENCE. A head
record that they object to is REFUSED without a frame, and the next record is offered in its place, or what follows an empty queue. With
nothing to offer nothing begins, and in STATION_CONFLICT nothing at all. -/
def Obligations.FrameBeginTakesTheOfferedFrame : Prop :=
  ∀ s : State, s.inReset = false → s.lbp.bus = some .idle → s.lbp.quiet = true → s.lbp.frame = .none →
    (s.pst.conflict = true → exec .frameBegin s = .next s) ∧
    (s.pst.conflict = false →
    let frame (p : Payload) : LaneFrame :=
      { source := s.stc.station, dayNumber := s.stc.dayNumber,
        tableTag := if s.ptb.load = .loaded then (s.ptb.header.map (·.tableTag)).getD 0 else 0, payload := p }
    let send (p : Payload) : Lbp := { s.lbp with bus := some .busy, quiet := false, tenure := 1, frame := .sending (frame p) }
    let said (k : AnnouncementKind) : Payload := match k with
      | .holdings a t => .holdings a t (shown s a t)
      | .presence => .presence ((s.stc.config.map (fun c => c.laneClass.number)).getD 0)
          (([0, 1, 2, 3] : List (Fin 4)).filter (fun i => (s.bst.get i).isSome)).length
    (∀ r rest, s.cle.queue = r :: rest → ¬ Objected s (carried r.kind) → exec .frameBegin s = .next
      { s with cle := { s.cle with inFlight := .head }, lbp := send (carried r.kind) }) ∧
    (∀ r next rest, s.cle.queue = r :: next :: rest → Objected s (carried r.kind) → ¬ Objected s (carried next.kind) →
      exec .frameBegin s = .next (refusedRecord r.kind
        { s with cle := { s.cle with queue := next :: rest, inFlight := .head }, lbp := send (carried next.kind) })) ∧
    (∀ r ms, s.cle.queue = [r] → Objected s (carried r.kind) → s.cle.inFlight = .none → s.cle.announcement = none →
      s.cle.owed = 0 → s.cle.echoes = [] → s.cle.presence = some ms → ms < 10000 →
      exec .frameBegin s = .next (refusedRecord r.kind { s with cle := { s.cle with queue := [] } })) ∧
    (∀ a, s.cle.queue = [] → s.cle.announcement = some a → exec .frameBegin s = .next
      { s with cle := { s.cle with inFlight := .announcement }, lbp := send (said a.kind) }) ∧
    (s.cle.queue = [] → s.cle.announcement = none →
      let new (k : AnnouncementKind) : State :=
        { s with cle := { s.cle with announcement := some ⟨k, 0, s.stc.timeBase⟩, inFlight := .announcement },
                 lbp := send (said k) }
      (∀ a < 32, s.cle.owed.getLsbD a = true → (∀ a' < a, s.cle.owed.getLsbD a' = false) →
        exec .frameBegin s = .next (new (.holdings a s.stc.station))) ∧
      (∀ m rest, s.cle.owed = 0 → s.cle.echoes = m :: rest → exec .frameBegin s = .next (new (.holdings m.1 m.2))) ∧
      (∀ ms, s.cle.owed = 0 → s.cle.echoes = [] → s.cle.presence = some ms → 10000 ≤ ms →
        exec .frameBegin s = .next (new .presence)) ∧
      (∀ ms, s.cle.owed = 0 → s.cle.echoes = [] → s.cle.presence = some ms → ms < 10000 → exec .frameBegin s = .next s)))

/-- A sender that loses arbitration in the first frame of its tenure listens on, its record at the head with its attempts unchanged; a
sender that meets a collision aborts with NOT_TAKEN, which raises the attempts of the head record; each raises its counter and ends the
tenure. -/
def Obligations.LostFramesStayAtTheHead : Prop :=
  ∀ (f : LaneFrame) (r : Record) (rest : List Record) (s : State), s.inReset = false → s.lbp.frame = .sending f →
    s.lbp.closing = false → s.cle.inFlight = .head → s.cle.queue = r :: rest → s.ageOf r.enqueued < 3000 →
    (s.lbp.tenure = 1 → exec .arbitrationLoss s = .next
      { s with
        cle := { s.cle with inFlight := .none },
        lbp := { s.lbp with
          frame := .receiving, tenure := 0,
          counters := { s.lbp.counters with arbitrationLosses := min (s.lbp.counters.arbitrationLosses + 1) 65535 } } }) ∧
    (r.kind.detached = false → r.attempts < 3 → exec .collisionAbort s = .next
      { s with
        cle := { s.cle with queue := { r with attempts := r.attempts + 1 } :: rest, inFlight := .none },
        lbp := { s.lbp with
          frame := .none, tenure := 0,
          counters := { s.lbp.counters with collisions := min (s.lbp.counters.collisions + 1) 65535 } } })

/-- FRAME_SENT of the head record: both slots high are ACCEPTED and the record takes effect at this station; a low conflict slot is
REFUSED, which takes a claim or a PURGE out of the queue, and leaves a release or a SYNC_ASK at the head; a low decline slot alone is
NOT_TAKEN, and the record stays with its attempts raised, until at the fourth, or past its age, it is UNSETTLED; a detached claim then
leaves without effect. Of an announcement, a PRESENCE leaves in every case, and a HOLDINGS when ACCEPTED or UNSETTLED, which clears its
mark. The presence timer restarts. The tenure ends after NOT_TAKEN, after four frames and with nothing to offer, and goes on with the next
record otherwise. After DAY_CLOSE the port turns OFF. That a REFUSED release, SYNC_ASK or HOLDINGS stays as it was is log entry 12. -/
def Obligations.FrameSentReadsBothSlots : Prop :=
  ∀ (f : LaneFrame) (s : State), s.inReset = false → s.lbp.frame = .sending f →
    (s.lbp.closing = true → ∀ d c, exec (.frameSent d c) s = .next
      { s with lbp := { s.lbp with bus := none, quiet := false, closing := false, frame := .none, tenure := 0 } }) ∧
    (s.lbp.closing = false →
      let inHand : Option Announcement := s.cle.announcement.filter (fun a => a.kind != .presence)
      let ended (cle : Cle) : State := { s with
        cle := { cle with inFlight := .none, presence := s.cle.presence.map (fun _ => 0) },
        lbp := { s.lbp with frame := .none, tenure := 0 } }
      let left (queue : List Record) : State := ended { s.cle with queue := queue, announcement := inHand }
      let quiet : Prop := s.cle.announcement = none ∧ s.cle.owed = 0 ∧ s.cle.echoes = []
      (∀ r rest, s.cle.inFlight = .head → s.cle.queue = r :: rest →
        let taken := match r.kind with
          | .allotClaim _ _ _ | .serialClaim _ _ _ | .pointsClaim _ _ _ | .purge _ _ => true
          | _ => false
        let detached := match r.kind with
          | .allotClaim none _ _ | .serialClaim none _ _ | .pointsClaim none _ _ => true
          | _ => false
        let last := s.lbp.tenure = 4 ∨ (rest = [] ∧ quiet)
        let next (k : RecordKind) : LaneFrame :=
          { source := s.stc.station, dayNumber := s.stc.dayNumber,
            tableTag := if s.ptb.load = .loaded then (s.ptb.header.map (·.tableTag)).getD 0 else 0, payload := carried k }
        let continued (kept : List Record) (k : RecordKind) : State := { s with
          cle := { s.cle with queue := kept, inFlight := .head, announcement := inHand,
                              presence := s.cle.presence.map (fun _ => 0) },
          lbp := { s.lbp with bus := some .busy, quiet := false, tenure := s.lbp.tenure + 1, frame := .sending (next k) } }
        (last → (∀ a n, r.kind = .allotClaim none a n → s.lbp.tenure = 4) →
          exec (.frameSent true true) s = .next (acceptedRecord r.kind (left rest))) ∧
        (∀ d, last → taken = true → exec (.frameSent d false) s = .next (refusedRecord r.kind (left rest))) ∧
        (∀ d, s.lbp.tenure = 4 → taken = false → exec (.frameSent d false) s = .next (left (r :: rest))) ∧
        (∀ d, s.lbp.tenure < 4 → taken = false →
          exec (.frameSent d false) s = .next (continued (r :: rest) r.kind)) ∧
        (∀ r' more, s.lbp.tenure < 4 → rest = r' :: more →
          (¬ Objected (acceptedRecord r.kind (left rest)) (carried r'.kind) →
            exec (.frameSent true true) s = .next (acceptedRecord r.kind (continued rest r'.kind))) ∧
          (taken = true → ¬ Objected s (carried r'.kind) →
            ∀ d, exec (.frameSent d false) s = .next (refusedRecord r.kind (continued rest r'.kind)))) ∧
        (∀ a n, s.lbp.tenure < 4 → rest = [] → r.kind = .allotClaim none a n → exec (.frameSent true true) s = .next
          (continued [⟨.allotRelease a n, 0, s.stc.timeBase⟩] (.allotRelease a n))) ∧
        (detached = true → exec (.frameSent false true) s = .next (left rest)) ∧
        (detached = false → r.attempts < 3 → s.ageOf r.enqueued < 3000 →
          exec (.frameSent false true) s = .next (left ({ r with attempts := r.attempts + 1 } :: rest))) ∧
        (detached = false → 3 ≤ r.attempts ∨ 3000 ≤ s.ageOf r.enqueued →
          ∃ t, exec (.frameSent false true) s = .next t ∧ Unsettled r.kind (left rest) t)) ∧
      (∀ a n t, s.cle.inFlight = .announcement → s.cle.announcement = some a → a.kind = .holdings n t → s.lbp.tenure = 4 →
        let cleared : Cle := if t = s.stc.station then { s.cle with announcement := none, owed := clearOwed n s.cle.owed }
          else { s.cle with announcement := none, echoes := s.cle.echoes.erase (n, t) }
        exec (.frameSent true true) s = .next (ended cleared) ∧
        (∀ d, exec (.frameSent d false) s = .next (ended s.cle)) ∧
        (a.attempts < 3 → s.ageOf a.firstOffer < 3000 → exec (.frameSent false true) s = .next
          (ended { s.cle with announcement := some { a with attempts := a.attempts + 1 } })) ∧
        (3 ≤ a.attempts ∨ 3000 ≤ s.ageOf a.firstOffer → exec (.frameSent false true) s = .next (ended cleared))) ∧
      (∀ a, s.cle.inFlight = .announcement → s.cle.announcement = some a → a.kind = .presence →
        s.lbp.tenure = 4 ∨ (s.cle.queue = [] ∧ s.cle.owed = 0 ∧ s.cle.echoes = []) →
        ∀ d c, exec (.frameSent d c) s = .next (ended { s.cle with announcement := none })))

/-- A received frame is judged in the order of the verdict's steps: a foreign one is passed over in silence, a wrong length or a bad CRC
is declined, an unknown kind or fields out of range are passed over and counted as ignored, and a conflict found objects. The CRC failures
and the frames ignored are counted at the judgement, and nothing else. A late verdict stretches LC until it is ready, and 2 ms at most,
when it becomes a decline, with LD pulled before LC is released. The station drives no slot for a foreign frame, for one that bears its
own number, nor in STATION_CONFLICT. An intact frame that bears its number puts it there: the flag is set, a notice is posted, and the
records of the queue but the releases end in queue order, each claim by its class's policy. A stretched frame is judged when its last byte
is in (log entry 15), and what is left of the 2 ms passes first (log entry 7). That a source which is no station's comes before fields out
of range is log entry 38. That both counters rise for a frame that bears the station's own number too is log entry 16, and that the notice
carries the frame's kind byte is log entry 46. -/
def Obligations.AReceivedFrameIsJudged : Prop :=
  ∀ (bytes : List Byte) (s : State), s.inReset = false →
    let source := heardSource bytes
    let whole := s.foreign bytes = false ∧ wrongLength bytes = false
    let sound := whole ∧ crcMatches bytes = true
    let objects (p : Payload) : Prop := source = 0 ∨ 32 < source ∨ Objected s p
    let judged (v : Verdict) : Prop :=
      (s.foreign bytes = true → v = .silence) ∧
      (s.foreign bytes = false → wrongLength bytes = true ∨ crcMatches bytes = false → v = .decline) ∧
      (sound → heardPayload bytes = none → v = .silence) ∧
      (∀ p, sound → heardPayload bytes = some p → (objects p → v = .conflict) ∧ (¬ objects p → v = .silence))
    let badCrc := whole ∧ crcMatches bytes = false
    let passed := sound ∧ ∀ p, heardPayload bytes = some p → ¬ objects p ∧ ¬ InRange p
    let mute : Bool := s.suspected bytes || s.pst.conflict
    let enters := s.suspected bytes = true ∧ wrongLength bytes = false ∧ crcMatches bytes = true ∧ s.pst.conflict = false
    let kept := s.cle.queue.filter (fun r => isRelease r.kind)
    (∀ late, s.lbp.frame = .receiving → ∃ (v : Verdict) (counters : LaneCounters) (pst : Pst), judged v ∧
      (badCrc → counters = { s.lbp.counters with crcFailures := min (s.lbp.counters.crcFailures + 1) 65535 }) ∧
      (¬ badCrc → counters = s.lbp.counters) ∧
      (passed → pst = { s.pst with ignored := min (s.pst.ignored + 1) 65535 }) ∧ (¬ passed → pst = s.pst) ∧
      (let driven : Verdict := if mute then .silence else v
       let lbp : Lbp := { s.lbp with
         counters := counters,
         frame := if late then .stretching bytes driven 0 else .judged bytes driven false }
       (¬ enters → exec (.frameReceived bytes late) s = .next { s with lbp := lbp, pst := pst }) ∧
       (enters → ∃ t, exec (.frameReceived bytes late) s = .next t ∧ t.pst.conflict = true ∧ t.cle.queue = kept ∧
         t.lbp = lbp ∧ t.ptb = s.ptb ∧ t.atc = s.atc ∧
         QueueResolved s.cle.queue
           (noticed { s with lbp := lbp, pst := { pst with conflict := true },
                             cle := { s.cle with queue := kept, inFlight := .none } }
             (.stationConflict s.stc.station (heardKind bytes))) t))) ∧
    (∀ w ms, s.lbp.frame = .stretching bytes w ms → s.pullsLC = true ∧
      (let released (now : State) (v : Verdict) : State := { now with lbp := { now.lbp with
         frame := .judged bytes v (v == .decline),
         counters := if v = .decline
           then { now.lbp.counters with declinesDriven := min (now.lbp.counters.declinesDriven + 1) 65535 }
           else now.lbp.counters } }
       let late : Verdict := if s.foreign bytes || mute then .silence else .decline
       exec .verdictReady s = .next (released s w) ∧
       exec .stretchLimitExpiry s = .next (released (s.elapse (2 - ms)) late) ∧
       ∀ now v, now.inReset = false → (released now v).pullsLC = false ∧ (released now v).pullsLD = (v == .decline)))

/-- A frame heard through its conflict slot is applied when both slots were high and this station drove neither, and only then, if it is
intact, of this day and table, from a peer and in range, by its kind: a claim or a release moves its column or figure or its pair in the
serial set, a HOLDINGS overwrites a peer's column, raises this station's sold count in JOINING, or owes its true figure in TRADING, a
PURGE clears a column, and a SYNC_ASK owes this station's holdings and the asker's echoes. The roster takes the frame of a peer that is
intact, whatever the slots read, and the first foreign one of a peer posts PEER_FOREIGN. The counter of frames heard rises by one, that of
the slot driven too, but for a decline that the end of its stretch has counted already, and the frame in hand ends. That it ends here is
log entry 9. When a decline is counted is log entry 15, and that echo marks are entered one by one is log entry 45. -/
def Obligations.AHeardFrameIsAppliedOnBothSlotsHigh : Prop :=
  ∀ (bytes : List Byte) (v : Verdict) (counted d c : Bool) (s : State), s.inReset = false →
    s.lbp.frame = .judged bytes v counted →
    let source := heardSource bytes
    let up (n : Nat) : Nat := min (n + 1) 65535
    let peer := wrongLength bytes = false ∧ crcMatches bytes = true ∧ 1 ≤ source ∧ source ≤ 32 ∧ s.suspected bytes = false
    let accepted (p : Payload) : Prop :=
      d = true ∧ c = true ∧ v = .silence ∧ s.foreign bytes = false ∧ peer ∧ heardPayload bytes = some p ∧ InRange p
    let old : RosterEntry := (tableGet source s.pst.roster).getD ⟨.absent, none, none, none, none, none, 0, false⟩
    let classes : List LaneClass := [.till, .tradeCounter, .selfCheckout, .garden]
    let entry : RosterEntry := { old with
      state := if s.foreign bytes then .foreign else .present, dayNumber := heardDay bytes, tableTag := heardTag bytes,
      sinceHeard := some 0, framesHeard := up old.framesHeard, foreignNoticed := old.foreignNoticed || s.foreign bytes }
    ∃ t, exec (.frameSlotsHeard d c) s = .next t ∧
      t.lbp = { s.lbp with
        frame := .none,
        counters := { s.lbp.counters with
          framesHeard := up s.lbp.counters.framesHeard,
          declinesDriven := if v = .decline ∧ counted = false then up s.lbp.counters.declinesDriven
            else s.lbp.counters.declinesDriven,
          conflictsDriven := if v = .conflict then up s.lbp.counters.conflictsDriven
            else s.lbp.counters.conflictsDriven } } ∧
      t.stc = s.stc ∧ t.ptb = s.ptb ∧ t.bst = s.bst ∧ t.eve = s.eve ∧ t.atc = s.atc ∧ t.cle.queue = s.cle.queue ∧
      t.inReset = s.inReset ∧ t.pending = s.pending ∧ t.dueChoices = s.dueChoices ∧
      ((∀ p, ¬ accepted p) → t.pst = { s.pst with roster := t.pst.roster } ∧ t.cle = s.cle) ∧
      (∀ p, accepted p → p ≠ .syncAsk →
        t.pst = { (heardApplied source p s).pst with roster := t.pst.roster } ∧ t.cle = (heardApplied source p s).cle) ∧
      (accepted .syncAsk → t.pst = { s.pst with roster := t.pst.roster } ∧
        t.cle = { s.cle with owed := t.cle.owed, echoes := t.cle.echoes } ∧
        (∀ a < 32, t.cle.owed.getLsbD a = (s.cle.owed.getLsbD a || decide (0 < ownUnits s a))) ∧
        (∀ m, m ∈ t.cle.echoes ↔ m ∈ s.cle.echoes ∨ (m.1 < 32 ∧ m.2 = source ∧ 0 < shown s m.1 source)) ∧
        (s.cle.echoes.Pairwise (fun x y => x.1 < y.1 ∨ (x.1 = y.1 ∧ x.2 < y.2)) →
          t.cle.echoes.Pairwise (fun x y => x.1 < y.1 ∨ (x.1 = y.1 ∧ x.2 < y.2)))) ∧
      (¬ peer → t.pst.roster = s.pst.roster ∧ t.tlp = s.tlp) ∧
      (peer →
        (∀ k, k ≠ source → tableGet k t.pst.roster = tableGet k s.pst.roster) ∧
        (∀ n k cls, heardPayload bytes = some (.presence n k) → classes[n]? = some cls → k ≤ 4 →
          tableGet source t.pst.roster = some { entry with laneClass := some cls, openBaskets := some k }) ∧
        ((∀ n k, heardPayload bytes = some (.presence n k) → 3 < n ∨ 4 < k) →
          tableGet source t.pst.roster = some entry) ∧
        (s.foreign bytes = true → old.foreignNoticed = false →
          t.tlp = (noticed s (.peerForeign source ((heardDay bytes).getD 0) ((heardTag bytes).getD 0))).tlp) ∧
        (s.foreign bytes = false ∨ old.foreignNoticed = true → t.tlp = s.tlp))

/-- A hung LD makes the bus HUNG and a hung LC makes it FAULTED, a frame being sent being NOT_TAKEN first; a recovery pulse that finds LD
high ends in IDLE, the ninth that does not, or LC held low, ends in FAULTED; there LANE_LOST is set, the entry is counted and noticed, the
releases stay in the queue, and every other record ends in queue order: each claim by its policy, on what those before it left, a PURGE
and a SYNC_ASK too, each basket's revision rising once. FAULTED_RECHECK 1 s on, with both lines high throughout, makes the bus IDLE with a
notice and every allotment with own holdings owed an announcement; otherwise the bus stays FAULTED for another interval. After DAY_CLOSE a
hang turns the port OFF. What is left of the interval passes first (log entry 7). -/
def Obligations.AHangIsRecoveredOrFaultsTheBus : Prop :=
  ∀ s : State, s.inReset = false →
    let up (n : Nat) : Nat := min (n + 1) 65535
    let hung : Lbp := { s.lbp with
      bus := some (.hung 0), quiet := false, frame := .none, tenure := 0,
      counters := { s.lbp.counters with hangEvents := up s.lbp.counters.hangEvents } }
    let faulted (lbp : Lbp) (queue : List Record) : State := noticed { s with
      lbp := { lbp with bus := some (.faulted 0), quiet := false, laneLost := true,
                        counters := { lbp.counters with faultedEntries := up lbp.counters.faultedEntries } },
      cle := { s.cle with queue := queue.filter (fun r => isRelease r.kind), inFlight := .none } } (.laneState true true)
    let faults (c : Instr) (lbp : Lbp) (queue : List Record) : Prop :=
      ∃ t, exec c s = .next t ∧ QueueResolved queue (faulted lbp queue) t ∧
        t.cle.queue = queue.filter (fun r => isRelease r.kind) ∧ t.lbp = (faulted lbp queue).lbp ∧
        t.tlp.notices = (faulted lbp queue).tlp.notices ∧ t.stc.day = s.stc.day ∧ t.ptb = s.ptb ∧ t.atc = s.atc
    ((s.lbp.bus = some .busy ∨ s.lbp.bus = some .idle) →
      (s.lbp.closing = true → ∀ lines, exec (.hangDetected lines) s = .next { s with lbp := { hung with
        bus := none, closing := false } }) ∧
      (s.lbp.closing = false → s.cle.inFlight = .none → (∀ f, s.lbp.frame ≠ .sending f) →
        exec (.hangDetected .ld) s = .next { s with lbp := hung } ∧
        faults (.hangDetected .lc) hung s.cle.queue ∧ faults (.hangDetected .both) hung s.cle.queue) ∧
      (∀ f r rest, s.lbp.closing = false → s.lbp.frame = .sending f → s.cle.inFlight = .head → s.cle.queue = r :: rest →
        let tried : List Record := { r with attempts := r.attempts + 1 } :: rest
        let detached := match r.kind with
          | .allotClaim none _ _ | .serialClaim none _ _ | .pointsClaim none _ _ => true
          | _ => false
        (detached = false → r.attempts < 3 → s.ageOf r.enqueued < 3000 →
          exec (.hangDetected .ld) s = .next
            { s with cle := { s.cle with queue := tried, inFlight := .none }, lbp := hung } ∧
          faults (.hangDetected .lc) hung tried ∧ faults (.hangDetected .both) hung tried) ∧
        (detached = false → 3 ≤ r.attempts ∨ 3000 ≤ s.ageOf r.enqueued →
          ∃ t, exec (.hangDetected .ld) s = .next t ∧
            Unsettled r.kind { s with cle := { s.cle with queue := rest, inFlight := .none }, lbp := hung } t) ∧
        (detached = true → exec (.hangDetected .ld) s = .next
          { s with cle := { s.cle with queue := rest, inFlight := .none }, lbp := hung }))) ∧
    (∀ n, s.lbp.bus = some (.hung n) →
      exec (.recoveryPulse true) s = .next { s with lbp := { s.lbp with bus := some .idle, quiet := false } } ∧
      (n < 8 → exec (.recoveryPulse false) s = .next
        { s with lbp := { s.lbp with bus := some (.hung (n + 1)), quiet := false } }) ∧
      (8 ≤ n → faults (.recoveryPulse false) s.lbp s.cle.queue) ∧
      faults .recoveryLcHeldLow s.lbp s.cle.queue) ∧
    (∀ ms, s.lbp.bus = some (.faulted ms) →
      let now := s.elapse (1000 - ms)
      (exec (.faultedRecheck false) s = .next { now with lbp := { now.lbp with bus := some (.faulted 0), quiet := false } }) ∧
      (∃ owed, exec (.faultedRecheck true) s = .next (noticed { now with
          lbp := { now.lbp with bus := some .idle, quiet := true }, cle := { now.cle with owed := owed } }
          (.laneState false s.lbp.laneLost)) ∧
        ∀ a < 32, owed.getLsbD a = (s.cle.owed.getLsbD a || decide (0 < ownUnits s a))))

/-! ## Timed events -/

/-- A record that reaches 3 s of age while it is not in flight leaves the queue from where it stands, UNSETTLED: a claim is resolved by
its class's policy, an ALLOT_RELEASE sets its owed flag, a serial or points release or a detached claim is dropped, a PURGE is answered
LANE_DOWN, a SYNC_ASK starts the join window; in flight, it goes on. So does an announcement: a HOLDINGS clears its mark, a PRESENCE
restarts its timer. The presence timer reaches 10 s. A roster entry unheard for 30 s is SILENT with its other fields kept. The join window
ends with the station TRADING, every allotment with own holdings owed an announcement, and a JOIN_COMPLETE notice. The span left to each
limit passes first (log entry 7). -/
def Obligations.SpansRunOut : Prop :=
  ∀ s : State, s.inReset = false →
    (∀ n r, s.cle.queue[n]? = some r →
      let now := s.elapse (3000 - s.ageOf r.enqueued)
      let gone : State := { now with cle := { now.cle with queue := now.cle.queue.eraseIdx n } }
      (n = 0 → s.cle.inFlight = .head → exec (.claimAgeExpiry (.record n)) s = .next now) ∧
      (¬ (n = 0 ∧ s.cle.inFlight = .head) →
        ∃ t, exec (.claimAgeExpiry (.record n)) s = .next t ∧ Unsettled r.kind gone t)) ∧
    (∀ a, s.cle.announcement = some a →
      let now := s.elapse (3000 - s.ageOf a.firstOffer)
      let dropped : Cle := { now.cle with announcement := none }
      (s.cle.inFlight = .announcement → exec (.claimAgeExpiry .announcement) s = .next now) ∧
      (s.cle.inFlight ≠ .announcement →
        (a.kind = .presence → exec (.claimAgeExpiry .announcement) s = .next
          { now with cle := { dropped with presence := s.cle.presence.map (fun _ => 0) } }) ∧
        (∀ x, a.kind = .holdings x s.stc.station → exec (.claimAgeExpiry .announcement) s = .next
          { now with cle := { dropped with owed := clearOwed x s.cle.owed } }) ∧
        (∀ x t, a.kind = .holdings x t → t ≠ s.stc.station → exec (.claimAgeExpiry .announcement) s = .next
          { now with cle := { dropped with echoes := s.cle.echoes.erase (x, t) } }))) ∧
    (∀ ms, s.cle.presence = some ms → ∃ t, exec .presenceDue s = .next t ∧ t = s.elapse (10000 - ms) ∧ t.presenceDue = true) ∧
    (∀ (station : Byte) e ms, tableGet station.toNat s.pst.roster = some e → (e.state = .present ∨ e.state = .foreign) →
      e.sinceHeard = some ms → ms ≤ 30000 → ∃ t, exec (.rosterSilent station) s = .next t ∧
        tableGet station.toNat t.pst.roster = some { e with state := .silent, sinceHeard := some 30000 } ∧
        (∀ k, k ≠ station.toNat → tableGet k t.pst.roster = tableGet k (s.elapse (30000 - ms)).pst.roster) ∧
        t.stc = (s.elapse (30000 - ms)).stc ∧ t.bst = s.bst ∧ t.tlp = s.tlp ∧ t.cle = (s.elapse (30000 - ms)).cle) ∧
    (∀ ms, s.stc.join = .running ms → ∃ owed,
      let now := s.elapse ms
      let present := (s.pst.roster.filter (fun e => e.2.state == .present)).length
      exec .joinWindowExpiry s = .next (noticed { now with
          stc := { now.stc with day := .trading, join := .idle }, cle := { now.cle with owed := owed } }
        (.joinComplete s.stc.dayNumber present (((List.range 32).map (ownUnits s)).sum))) ∧
      ∀ a < 32, owed.getLsbD a = (s.cle.owed.getLsbD a || decide (0 < ownUnits s a)))

/-! ## Laws that every step keeps -/

/-- Every law of the part holds right after reset. -/
def Obligations.TheLawsHoldAtReset : Prop := State.reset.inv = true

/-- Every step keeps the law of the slots, at most one basket neither FREE nor PARKED, that of the held override, which exists exactly
while the active basket is HELD, and that of the lists, at most 200 lines numbered from 1 and at most 8 coupons. -/
def Obligations.EveryStepKeepsTheBasketLaws : Prop :=
  ∀ s t : State, s.inv = true → step s = .next t → t.slotsLaw = true ∧ t.heldLaw = true ∧ t.listsLaw = true

/-- Every step keeps the law of authority: the LAL is the acting person's level, each of at most three frames was a gain, and the timer
runs exactly while there is one. -/
def Obligations.EveryStepKeepsTheLawOfAuthority : Prop :=
  ∀ s t : State, s.inv = true → step s = .next t → t.atc.law = true

/-- Every step keeps the law of the queue, at most 16 records and none off the day, and the laws of the station's day. -/
def Obligations.EveryStepKeepsTheQueueAndTheDay : Prop :=
  ∀ s t : State, s.inv = true → step s = .next t → t.queueLaw = true ∧ t.dayLaw = true

/-- Every step keeps the tables in canonical form, the serial set free of repeats and both peer tables within their sizes. -/
def Obligations.EveryStepKeepsTheTablesInForm : Prop :=
  ∀ s t : State, s.inv = true → step s = .next t → t.formLaw = true ∧ t.pst.law = true

/-- Every step keeps the law of the engine: a scan is of the active basket and sees its last change or is followed by another, and an IDLE
engine's active basket is priced. -/
def Obligations.EveryStepKeepsTheEngineInStep : Prop :=
  ∀ s t : State, s.inv = true → step s = .next t → t.engineLaw = true

/-- Every step keeps the law of the port: ON exactly on the day and while a closing frame completes, a tenure of one to four frames, and
in flight exactly what is sent. -/
def Obligations.EveryStepKeepsThePortLaw : Prop :=
  ∀ s t : State, s.inv = true → step s = .next t → t.portLaw = true

/-- Every step keeps the law of the link: every outstanding tag is that of one response that waits or of one request that is deferred, at
most 8 in all. -/
def Obligations.EveryStepKeepsTheLinkLaw : Prop :=
  ∀ s t : State, s.inv = true → step s = .next t → t.linkLaw = true

end
end

