-- ==== Sys2Proof/Laws/State.lean ====
section
/-!
SUPPORT. What each shared update of the state leaves in each field: one lemma per field per update, so that no proof unfolds a record
update.
-/

namespace Sys2Proof.Machine

/-! ### `setSlot` -/

@[simp] theorem State.setSlot_stc (s : State) (i : Fin 4) (v : Option Basket) : (s.setSlot i v).stc = s.stc := rfl
@[simp] theorem State.setSlot_ptb (s : State) (i : Fin 4) (v : Option Basket) : (s.setSlot i v).ptb = s.ptb := rfl
@[simp] theorem State.setSlot_eve (s : State) (i : Fin 4) (v : Option Basket) : (s.setSlot i v).eve = s.eve := rfl
@[simp] theorem State.setSlot_atc (s : State) (i : Fin 4) (v : Option Basket) : (s.setSlot i v).atc = s.atc := rfl
@[simp] theorem State.setSlot_cle (s : State) (i : Fin 4) (v : Option Basket) : (s.setSlot i v).cle = s.cle := rfl
@[simp] theorem State.setSlot_pst (s : State) (i : Fin 4) (v : Option Basket) : (s.setSlot i v).pst = s.pst := rfl
@[simp] theorem State.setSlot_lbp (s : State) (i : Fin 4) (v : Option Basket) : (s.setSlot i v).lbp = s.lbp := rfl
@[simp] theorem State.setSlot_tlp (s : State) (i : Fin 4) (v : Option Basket) : (s.setSlot i v).tlp = s.tlp := rfl
@[simp] theorem State.setSlot_inReset (s : State) (i : Fin 4) (v : Option Basket) : (s.setSlot i v).inReset = s.inReset := rfl
@[simp] theorem State.setSlot_dueChoices (s : State) (i : Fin 4) (v : Option Basket) : (s.setSlot i v).dueChoices = s.dueChoices := rfl
@[simp] theorem State.setSlot_pending (s : State) (i : Fin 4) (v : Option Basket) : (s.setSlot i v).pending = s.pending := rfl

/-! ### `updateBasket` -/

@[simp] theorem State.updateBasket_stc (s : State) (i : Fin 4) (f : Basket → Basket) : (s.updateBasket i f).stc = s.stc := rfl
@[simp] theorem State.updateBasket_ptb (s : State) (i : Fin 4) (f : Basket → Basket) : (s.updateBasket i f).ptb = s.ptb := rfl
@[simp] theorem State.updateBasket_eve (s : State) (i : Fin 4) (f : Basket → Basket) : (s.updateBasket i f).eve = s.eve := rfl
@[simp] theorem State.updateBasket_atc (s : State) (i : Fin 4) (f : Basket → Basket) : (s.updateBasket i f).atc = s.atc := rfl
@[simp] theorem State.updateBasket_cle (s : State) (i : Fin 4) (f : Basket → Basket) : (s.updateBasket i f).cle = s.cle := rfl
@[simp] theorem State.updateBasket_pst (s : State) (i : Fin 4) (f : Basket → Basket) : (s.updateBasket i f).pst = s.pst := rfl
@[simp] theorem State.updateBasket_lbp (s : State) (i : Fin 4) (f : Basket → Basket) : (s.updateBasket i f).lbp = s.lbp := rfl
@[simp] theorem State.updateBasket_tlp (s : State) (i : Fin 4) (f : Basket → Basket) : (s.updateBasket i f).tlp = s.tlp := rfl
@[simp] theorem State.updateBasket_inReset (s : State) (i : Fin 4) (f : Basket → Basket) : (s.updateBasket i f).inReset = s.inReset := rfl
@[simp] theorem State.updateBasket_dueChoices (s : State) (i : Fin 4) (f : Basket → Basket) : (s.updateBasket i f).dueChoices = s.dueChoices := rfl
@[simp] theorem State.updateBasket_pending (s : State) (i : Fin 4) (f : Basket → Basket) : (s.updateBasket i f).pending = s.pending := rfl

/-! ### `transfer` -/

@[simp] theorem State.transfer_stc (s : State) (out : List Byte) : (s.transfer out).stc = s.stc := rfl
@[simp] theorem State.transfer_ptb (s : State) (out : List Byte) : (s.transfer out).ptb = s.ptb := rfl
@[simp] theorem State.transfer_bst (s : State) (out : List Byte) : (s.transfer out).bst = s.bst := rfl
@[simp] theorem State.transfer_eve (s : State) (out : List Byte) : (s.transfer out).eve = s.eve := rfl
@[simp] theorem State.transfer_atc (s : State) (out : List Byte) : (s.transfer out).atc = s.atc := rfl
@[simp] theorem State.transfer_cle (s : State) (out : List Byte) : (s.transfer out).cle = s.cle := rfl
@[simp] theorem State.transfer_pst (s : State) (out : List Byte) : (s.transfer out).pst = s.pst := rfl
@[simp] theorem State.transfer_lbp (s : State) (out : List Byte) : (s.transfer out).lbp = s.lbp := rfl
@[simp] theorem State.transfer_inReset (s : State) (out : List Byte) : (s.transfer out).inReset = s.inReset := rfl
@[simp] theorem State.transfer_dueChoices (s : State) (out : List Byte) : (s.transfer out).dueChoices = s.dueChoices := rfl
@[simp] theorem State.transfer_pending (s : State) (out : List Byte) : (s.transfer out).pending = s.pending := rfl

/-! ### `outstanding` -/

@[simp] theorem State.outstanding_stc (s : State) (tag : Byte) : (s.outstanding tag).stc = s.stc := rfl
@[simp] theorem State.outstanding_ptb (s : State) (tag : Byte) : (s.outstanding tag).ptb = s.ptb := rfl
@[simp] theorem State.outstanding_bst (s : State) (tag : Byte) : (s.outstanding tag).bst = s.bst := rfl
@[simp] theorem State.outstanding_eve (s : State) (tag : Byte) : (s.outstanding tag).eve = s.eve := rfl
@[simp] theorem State.outstanding_atc (s : State) (tag : Byte) : (s.outstanding tag).atc = s.atc := rfl
@[simp] theorem State.outstanding_cle (s : State) (tag : Byte) : (s.outstanding tag).cle = s.cle := rfl
@[simp] theorem State.outstanding_pst (s : State) (tag : Byte) : (s.outstanding tag).pst = s.pst := rfl
@[simp] theorem State.outstanding_lbp (s : State) (tag : Byte) : (s.outstanding tag).lbp = s.lbp := rfl
@[simp] theorem State.outstanding_inReset (s : State) (tag : Byte) : (s.outstanding tag).inReset = s.inReset := rfl
@[simp] theorem State.outstanding_dueChoices (s : State) (tag : Byte) : (s.outstanding tag).dueChoices = s.dueChoices := rfl
@[simp] theorem State.outstanding_pending (s : State) (tag : Byte) : (s.outstanding tag).pending = s.pending := rfl

/-! ### `respond` -/

@[simp] theorem State.respond_stc (s : State) (tag : Byte) (r : Reply) : (s.respond tag r).stc = s.stc := rfl
@[simp] theorem State.respond_ptb (s : State) (tag : Byte) (r : Reply) : (s.respond tag r).ptb = s.ptb := rfl
@[simp] theorem State.respond_bst (s : State) (tag : Byte) (r : Reply) : (s.respond tag r).bst = s.bst := rfl
@[simp] theorem State.respond_eve (s : State) (tag : Byte) (r : Reply) : (s.respond tag r).eve = s.eve := rfl
@[simp] theorem State.respond_atc (s : State) (tag : Byte) (r : Reply) : (s.respond tag r).atc = s.atc := rfl
@[simp] theorem State.respond_cle (s : State) (tag : Byte) (r : Reply) : (s.respond tag r).cle = s.cle := rfl
@[simp] theorem State.respond_pst (s : State) (tag : Byte) (r : Reply) : (s.respond tag r).pst = s.pst := rfl
@[simp] theorem State.respond_lbp (s : State) (tag : Byte) (r : Reply) : (s.respond tag r).lbp = s.lbp := rfl
@[simp] theorem State.respond_inReset (s : State) (tag : Byte) (r : Reply) : (s.respond tag r).inReset = s.inReset := rfl
@[simp] theorem State.respond_dueChoices (s : State) (tag : Byte) (r : Reply) : (s.respond tag r).dueChoices = s.dueChoices := rfl
@[simp] theorem State.respond_pending (s : State) (tag : Byte) (r : Reply) : (s.respond tag r).pending = s.pending := rfl

/-! ### `markOwed` -/

@[simp] theorem State.markOwed_stc (s : State) (a : Nat) : (s.markOwed a).stc = s.stc := rfl
@[simp] theorem State.markOwed_ptb (s : State) (a : Nat) : (s.markOwed a).ptb = s.ptb := rfl
@[simp] theorem State.markOwed_bst (s : State) (a : Nat) : (s.markOwed a).bst = s.bst := rfl
@[simp] theorem State.markOwed_eve (s : State) (a : Nat) : (s.markOwed a).eve = s.eve := rfl
@[simp] theorem State.markOwed_atc (s : State) (a : Nat) : (s.markOwed a).atc = s.atc := rfl
@[simp] theorem State.markOwed_pst (s : State) (a : Nat) : (s.markOwed a).pst = s.pst := rfl
@[simp] theorem State.markOwed_lbp (s : State) (a : Nat) : (s.markOwed a).lbp = s.lbp := rfl
@[simp] theorem State.markOwed_tlp (s : State) (a : Nat) : (s.markOwed a).tlp = s.tlp := rfl
@[simp] theorem State.markOwed_inReset (s : State) (a : Nat) : (s.markOwed a).inReset = s.inReset := rfl
@[simp] theorem State.markOwed_dueChoices (s : State) (a : Nat) : (s.markOwed a).dueChoices = s.dueChoices := rfl
@[simp] theorem State.markOwed_pending (s : State) (a : Nat) : (s.markOwed a).pending = s.pending := rfl

/-! ### `owesHoldings` -/

@[simp] theorem State.owesHoldings_stc (s : State) : (s.owesHoldings).stc = s.stc := rfl
@[simp] theorem State.owesHoldings_ptb (s : State) : (s.owesHoldings).ptb = s.ptb := rfl
@[simp] theorem State.owesHoldings_bst (s : State) : (s.owesHoldings).bst = s.bst := rfl
@[simp] theorem State.owesHoldings_eve (s : State) : (s.owesHoldings).eve = s.eve := rfl
@[simp] theorem State.owesHoldings_atc (s : State) : (s.owesHoldings).atc = s.atc := rfl
@[simp] theorem State.owesHoldings_pst (s : State) : (s.owesHoldings).pst = s.pst := rfl
@[simp] theorem State.owesHoldings_lbp (s : State) : (s.owesHoldings).lbp = s.lbp := rfl
@[simp] theorem State.owesHoldings_tlp (s : State) : (s.owesHoldings).tlp = s.tlp := rfl
@[simp] theorem State.owesHoldings_inReset (s : State) : (s.owesHoldings).inReset = s.inReset := rfl
@[simp] theorem State.owesHoldings_dueChoices (s : State) : (s.owesHoldings).dueChoices = s.dueChoices := rfl
@[simp] theorem State.owesHoldings_pending (s : State) : (s.owesHoldings).pending = s.pending := rfl

/-! ### `enqueue` -/

@[simp] theorem State.enqueue_stc (s : State) (k : RecordKind) : (s.enqueue k).stc = s.stc := rfl
@[simp] theorem State.enqueue_ptb (s : State) (k : RecordKind) : (s.enqueue k).ptb = s.ptb := rfl
@[simp] theorem State.enqueue_bst (s : State) (k : RecordKind) : (s.enqueue k).bst = s.bst := rfl
@[simp] theorem State.enqueue_eve (s : State) (k : RecordKind) : (s.enqueue k).eve = s.eve := rfl
@[simp] theorem State.enqueue_atc (s : State) (k : RecordKind) : (s.enqueue k).atc = s.atc := rfl
@[simp] theorem State.enqueue_pst (s : State) (k : RecordKind) : (s.enqueue k).pst = s.pst := rfl
@[simp] theorem State.enqueue_lbp (s : State) (k : RecordKind) : (s.enqueue k).lbp = s.lbp := rfl
@[simp] theorem State.enqueue_tlp (s : State) (k : RecordKind) : (s.enqueue k).tlp = s.tlp := rfl
@[simp] theorem State.enqueue_inReset (s : State) (k : RecordKind) : (s.enqueue k).inReset = s.inReset := rfl
@[simp] theorem State.enqueue_dueChoices (s : State) (k : RecordKind) : (s.enqueue k).dueChoices = s.dueChoices := rfl
@[simp] theorem State.enqueue_pending (s : State) (k : RecordKind) : (s.enqueue k).pending = s.pending := rfl

/-! ### `dropHead` -/

@[simp] theorem State.dropHead_stc (s : State) : (s.dropHead).stc = s.stc := rfl
@[simp] theorem State.dropHead_ptb (s : State) : (s.dropHead).ptb = s.ptb := rfl
@[simp] theorem State.dropHead_bst (s : State) : (s.dropHead).bst = s.bst := rfl
@[simp] theorem State.dropHead_eve (s : State) : (s.dropHead).eve = s.eve := rfl
@[simp] theorem State.dropHead_atc (s : State) : (s.dropHead).atc = s.atc := rfl
@[simp] theorem State.dropHead_pst (s : State) : (s.dropHead).pst = s.pst := rfl
@[simp] theorem State.dropHead_lbp (s : State) : (s.dropHead).lbp = s.lbp := rfl
@[simp] theorem State.dropHead_tlp (s : State) : (s.dropHead).tlp = s.tlp := rfl
@[simp] theorem State.dropHead_inReset (s : State) : (s.dropHead).inReset = s.inReset := rfl
@[simp] theorem State.dropHead_dueChoices (s : State) : (s.dropHead).dueChoices = s.dueChoices := rfl
@[simp] theorem State.dropHead_pending (s : State) : (s.dropHead).pending = s.pending := rfl

/-! ### `dropRecord` -/

@[simp] theorem State.dropRecord_stc (s : State) (n : Nat) : (s.dropRecord n).stc = s.stc := rfl
@[simp] theorem State.dropRecord_ptb (s : State) (n : Nat) : (s.dropRecord n).ptb = s.ptb := rfl
@[simp] theorem State.dropRecord_bst (s : State) (n : Nat) : (s.dropRecord n).bst = s.bst := rfl
@[simp] theorem State.dropRecord_eve (s : State) (n : Nat) : (s.dropRecord n).eve = s.eve := rfl
@[simp] theorem State.dropRecord_atc (s : State) (n : Nat) : (s.dropRecord n).atc = s.atc := rfl
@[simp] theorem State.dropRecord_pst (s : State) (n : Nat) : (s.dropRecord n).pst = s.pst := rfl
@[simp] theorem State.dropRecord_lbp (s : State) (n : Nat) : (s.dropRecord n).lbp = s.lbp := rfl
@[simp] theorem State.dropRecord_tlp (s : State) (n : Nat) : (s.dropRecord n).tlp = s.tlp := rfl
@[simp] theorem State.dropRecord_inReset (s : State) (n : Nat) : (s.dropRecord n).inReset = s.inReset := rfl
@[simp] theorem State.dropRecord_dueChoices (s : State) (n : Nat) : (s.dropRecord n).dueChoices = s.dueChoices := rfl
@[simp] theorem State.dropRecord_pending (s : State) (n : Nat) : (s.dropRecord n).pending = s.pending := rfl

/-! ### `restartPresence` -/

@[simp] theorem State.restartPresence_stc (s : State) : (s.restartPresence).stc = s.stc := rfl
@[simp] theorem State.restartPresence_ptb (s : State) : (s.restartPresence).ptb = s.ptb := rfl
@[simp] theorem State.restartPresence_bst (s : State) : (s.restartPresence).bst = s.bst := rfl
@[simp] theorem State.restartPresence_eve (s : State) : (s.restartPresence).eve = s.eve := rfl
@[simp] theorem State.restartPresence_atc (s : State) : (s.restartPresence).atc = s.atc := rfl
@[simp] theorem State.restartPresence_pst (s : State) : (s.restartPresence).pst = s.pst := rfl
@[simp] theorem State.restartPresence_lbp (s : State) : (s.restartPresence).lbp = s.lbp := rfl
@[simp] theorem State.restartPresence_tlp (s : State) : (s.restartPresence).tlp = s.tlp := rfl
@[simp] theorem State.restartPresence_inReset (s : State) : (s.restartPresence).inReset = s.inReset := rfl
@[simp] theorem State.restartPresence_dueChoices (s : State) : (s.restartPresence).dueChoices = s.dueChoices := rfl
@[simp] theorem State.restartPresence_pending (s : State) : (s.restartPresence).pending = s.pending := rfl

/-! ### `dropAnnouncement` -/

@[simp] theorem State.dropAnnouncement_stc (s : State) : (s.dropAnnouncement).stc = s.stc := rfl
@[simp] theorem State.dropAnnouncement_ptb (s : State) : (s.dropAnnouncement).ptb = s.ptb := rfl
@[simp] theorem State.dropAnnouncement_bst (s : State) : (s.dropAnnouncement).bst = s.bst := rfl
@[simp] theorem State.dropAnnouncement_eve (s : State) : (s.dropAnnouncement).eve = s.eve := rfl
@[simp] theorem State.dropAnnouncement_atc (s : State) : (s.dropAnnouncement).atc = s.atc := rfl
@[simp] theorem State.dropAnnouncement_pst (s : State) : (s.dropAnnouncement).pst = s.pst := rfl
@[simp] theorem State.dropAnnouncement_lbp (s : State) : (s.dropAnnouncement).lbp = s.lbp := rfl
@[simp] theorem State.dropAnnouncement_tlp (s : State) : (s.dropAnnouncement).tlp = s.tlp := rfl
@[simp] theorem State.dropAnnouncement_inReset (s : State) : (s.dropAnnouncement).inReset = s.inReset := rfl
@[simp] theorem State.dropAnnouncement_dueChoices (s : State) : (s.dropAnnouncement).dueChoices = s.dueChoices := rfl
@[simp] theorem State.dropAnnouncement_pending (s : State) : (s.dropAnnouncement).pending = s.pending := rfl

/-! ### `markEchoes` -/

@[simp] theorem State.markEchoes_stc (s : State) (t : Nat) : (s.markEchoes t).stc = s.stc := rfl
@[simp] theorem State.markEchoes_ptb (s : State) (t : Nat) : (s.markEchoes t).ptb = s.ptb := rfl
@[simp] theorem State.markEchoes_bst (s : State) (t : Nat) : (s.markEchoes t).bst = s.bst := rfl
@[simp] theorem State.markEchoes_eve (s : State) (t : Nat) : (s.markEchoes t).eve = s.eve := rfl
@[simp] theorem State.markEchoes_atc (s : State) (t : Nat) : (s.markEchoes t).atc = s.atc := rfl
@[simp] theorem State.markEchoes_pst (s : State) (t : Nat) : (s.markEchoes t).pst = s.pst := rfl
@[simp] theorem State.markEchoes_lbp (s : State) (t : Nat) : (s.markEchoes t).lbp = s.lbp := rfl
@[simp] theorem State.markEchoes_tlp (s : State) (t : Nat) : (s.markEchoes t).tlp = s.tlp := rfl
@[simp] theorem State.markEchoes_inReset (s : State) (t : Nat) : (s.markEchoes t).inReset = s.inReset := rfl
@[simp] theorem State.markEchoes_dueChoices (s : State) (t : Nat) : (s.markEchoes t).dueChoices = s.dueChoices := rfl
@[simp] theorem State.markEchoes_pending (s : State) (t : Nat) : (s.markEchoes t).pending = s.pending := rfl

/-! ### `removeSerial` -/

@[simp] theorem State.removeSerial_stc (s : State) (c n : Nat) : (s.removeSerial c n).stc = s.stc := rfl
@[simp] theorem State.removeSerial_ptb (s : State) (c n : Nat) : (s.removeSerial c n).ptb = s.ptb := rfl
@[simp] theorem State.removeSerial_bst (s : State) (c n : Nat) : (s.removeSerial c n).bst = s.bst := rfl
@[simp] theorem State.removeSerial_eve (s : State) (c n : Nat) : (s.removeSerial c n).eve = s.eve := rfl
@[simp] theorem State.removeSerial_atc (s : State) (c n : Nat) : (s.removeSerial c n).atc = s.atc := rfl
@[simp] theorem State.removeSerial_cle (s : State) (c n : Nat) : (s.removeSerial c n).cle = s.cle := rfl
@[simp] theorem State.removeSerial_lbp (s : State) (c n : Nat) : (s.removeSerial c n).lbp = s.lbp := rfl
@[simp] theorem State.removeSerial_tlp (s : State) (c n : Nat) : (s.removeSerial c n).tlp = s.tlp := rfl
@[simp] theorem State.removeSerial_inReset (s : State) (c n : Nat) : (s.removeSerial c n).inReset = s.inReset := rfl
@[simp] theorem State.removeSerial_dueChoices (s : State) (c n : Nat) : (s.removeSerial c n).dueChoices = s.dueChoices := rfl
@[simp] theorem State.removeSerial_pending (s : State) (c n : Nat) : (s.removeSerial c n).pending = s.pending := rfl

/-! ### `abandonScan` -/

@[simp] theorem State.abandonScan_stc (s : State) : (s.abandonScan).stc = s.stc := rfl
@[simp] theorem State.abandonScan_ptb (s : State) : (s.abandonScan).ptb = s.ptb := rfl
@[simp] theorem State.abandonScan_bst (s : State) : (s.abandonScan).bst = s.bst := rfl
@[simp] theorem State.abandonScan_atc (s : State) : (s.abandonScan).atc = s.atc := rfl
@[simp] theorem State.abandonScan_cle (s : State) : (s.abandonScan).cle = s.cle := rfl
@[simp] theorem State.abandonScan_pst (s : State) : (s.abandonScan).pst = s.pst := rfl
@[simp] theorem State.abandonScan_lbp (s : State) : (s.abandonScan).lbp = s.lbp := rfl
@[simp] theorem State.abandonScan_tlp (s : State) : (s.abandonScan).tlp = s.tlp := rfl
@[simp] theorem State.abandonScan_inReset (s : State) : (s.abandonScan).inReset = s.inReset := rfl
@[simp] theorem State.abandonScan_dueChoices (s : State) : (s.abandonScan).dueChoices = s.dueChoices := rfl
@[simp] theorem State.abandonScan_pending (s : State) : (s.abandonScan).pending = s.pending := rfl

/-! ### `count` -/

@[simp] theorem State.count_stc (s : State) (f : LaneCounters → LaneCounters) : (s.count f).stc = s.stc := rfl
@[simp] theorem State.count_ptb (s : State) (f : LaneCounters → LaneCounters) : (s.count f).ptb = s.ptb := rfl
@[simp] theorem State.count_bst (s : State) (f : LaneCounters → LaneCounters) : (s.count f).bst = s.bst := rfl
@[simp] theorem State.count_eve (s : State) (f : LaneCounters → LaneCounters) : (s.count f).eve = s.eve := rfl
@[simp] theorem State.count_atc (s : State) (f : LaneCounters → LaneCounters) : (s.count f).atc = s.atc := rfl
@[simp] theorem State.count_cle (s : State) (f : LaneCounters → LaneCounters) : (s.count f).cle = s.cle := rfl
@[simp] theorem State.count_pst (s : State) (f : LaneCounters → LaneCounters) : (s.count f).pst = s.pst := rfl
@[simp] theorem State.count_tlp (s : State) (f : LaneCounters → LaneCounters) : (s.count f).tlp = s.tlp := rfl
@[simp] theorem State.count_inReset (s : State) (f : LaneCounters → LaneCounters) : (s.count f).inReset = s.inReset := rfl
@[simp] theorem State.count_dueChoices (s : State) (f : LaneCounters → LaneCounters) : (s.count f).dueChoices = s.dueChoices := rfl
@[simp] theorem State.count_pending (s : State) (f : LaneCounters → LaneCounters) : (s.count f).pending = s.pending := rfl

/-! ### `setSold` -/

@[simp] theorem State.setSold_stc (s : State) (a n : Nat) : (s.setSold a n).stc = s.stc := rfl
@[simp] theorem State.setSold_ptb (s : State) (a n : Nat) : (s.setSold a n).ptb = s.ptb := rfl
@[simp] theorem State.setSold_bst (s : State) (a n : Nat) : (s.setSold a n).bst = s.bst := rfl
@[simp] theorem State.setSold_eve (s : State) (a n : Nat) : (s.setSold a n).eve = s.eve := rfl
@[simp] theorem State.setSold_atc (s : State) (a n : Nat) : (s.setSold a n).atc = s.atc := rfl
@[simp] theorem State.setSold_pst (s : State) (a n : Nat) : (s.setSold a n).pst = s.pst := rfl
@[simp] theorem State.setSold_lbp (s : State) (a n : Nat) : (s.setSold a n).lbp = s.lbp := rfl
@[simp] theorem State.setSold_tlp (s : State) (a n : Nat) : (s.setSold a n).tlp = s.tlp := rfl
@[simp] theorem State.setSold_inReset (s : State) (a n : Nat) : (s.setSold a n).inReset = s.inReset := rfl
@[simp] theorem State.setSold_dueChoices (s : State) (a n : Nat) : (s.setSold a n).dueChoices = s.dueChoices := rfl
@[simp] theorem State.setSold_pending (s : State) (a n : Nat) : (s.setSold a n).pending = s.pending := rfl

/-! ### `notify` -/

@[simp] theorem State.notify_stc (s : State) (n : Notice) : (s.notify n).stc = s.stc := by
  unfold State.notify; split <;> rfl
@[simp] theorem State.notify_ptb (s : State) (n : Notice) : (s.notify n).ptb = s.ptb := by
  unfold State.notify; split <;> rfl
@[simp] theorem State.notify_bst (s : State) (n : Notice) : (s.notify n).bst = s.bst := by
  unfold State.notify; split <;> rfl
@[simp] theorem State.notify_eve (s : State) (n : Notice) : (s.notify n).eve = s.eve := by
  unfold State.notify; split <;> rfl
@[simp] theorem State.notify_atc (s : State) (n : Notice) : (s.notify n).atc = s.atc := by
  unfold State.notify; split <;> rfl
@[simp] theorem State.notify_cle (s : State) (n : Notice) : (s.notify n).cle = s.cle := by
  unfold State.notify; split <;> rfl
@[simp] theorem State.notify_pst (s : State) (n : Notice) : (s.notify n).pst = s.pst := by
  unfold State.notify; split <;> rfl
@[simp] theorem State.notify_lbp (s : State) (n : Notice) : (s.notify n).lbp = s.lbp := by
  unfold State.notify; split <;> rfl
@[simp] theorem State.notify_inReset (s : State) (n : Notice) : (s.notify n).inReset = s.inReset := by
  unfold State.notify; split <;> rfl
@[simp] theorem State.notify_dueChoices (s : State) (n : Notice) : (s.notify n).dueChoices = s.dueChoices := by
  unfold State.notify; split <;> rfl
@[simp] theorem State.notify_pending (s : State) (n : Notice) : (s.notify n).pending = s.pending := by
  unfold State.notify; split <;> rfl

/-! ### `insertSerial` -/

@[simp] theorem State.insertSerial_stc (s : State) (c n : Nat) : (s.insertSerial c n).stc = s.stc := by
  unfold State.insertSerial; split <;> first | rfl | (split <;> rfl)
@[simp] theorem State.insertSerial_ptb (s : State) (c n : Nat) : (s.insertSerial c n).ptb = s.ptb := by
  unfold State.insertSerial; split <;> first | rfl | (split <;> rfl)
@[simp] theorem State.insertSerial_bst (s : State) (c n : Nat) : (s.insertSerial c n).bst = s.bst := by
  unfold State.insertSerial; split <;> first | rfl | (split <;> rfl)
@[simp] theorem State.insertSerial_eve (s : State) (c n : Nat) : (s.insertSerial c n).eve = s.eve := by
  unfold State.insertSerial; split <;> first | rfl | (split <;> rfl)
@[simp] theorem State.insertSerial_atc (s : State) (c n : Nat) : (s.insertSerial c n).atc = s.atc := by
  unfold State.insertSerial; split <;> first | rfl | (split <;> rfl)
@[simp] theorem State.insertSerial_cle (s : State) (c n : Nat) : (s.insertSerial c n).cle = s.cle := by
  unfold State.insertSerial; split <;> first | rfl | (split <;> rfl)
@[simp] theorem State.insertSerial_lbp (s : State) (c n : Nat) : (s.insertSerial c n).lbp = s.lbp := by
  unfold State.insertSerial; split <;> first | rfl | (split <;> rfl)
@[simp] theorem State.insertSerial_tlp (s : State) (c n : Nat) : (s.insertSerial c n).tlp = s.tlp := by
  unfold State.insertSerial; split <;> first | rfl | (split <;> rfl)
@[simp] theorem State.insertSerial_inReset (s : State) (c n : Nat) : (s.insertSerial c n).inReset = s.inReset := by
  unfold State.insertSerial; split <;> first | rfl | (split <;> rfl)
@[simp] theorem State.insertSerial_dueChoices (s : State) (c n : Nat) : (s.insertSerial c n).dueChoices = s.dueChoices := by
  unfold State.insertSerial; split <;> first | rfl | (split <;> rfl)
@[simp] theorem State.insertSerial_pending (s : State) (c n : Nat) : (s.insertSerial c n).pending = s.pending := by
  unfold State.insertSerial; split <;> first | rfl | (split <;> rfl)

/-! ### `updateMember` -/

@[simp] theorem State.updateMember_stc (s : State) (m n : Nat) : (s.updateMember m n).stc = s.stc := by
  unfold State.updateMember; split <;> rfl
@[simp] theorem State.updateMember_ptb (s : State) (m n : Nat) : (s.updateMember m n).ptb = s.ptb := by
  unfold State.updateMember; split <;> rfl
@[simp] theorem State.updateMember_bst (s : State) (m n : Nat) : (s.updateMember m n).bst = s.bst := by
  unfold State.updateMember; split <;> rfl
@[simp] theorem State.updateMember_eve (s : State) (m n : Nat) : (s.updateMember m n).eve = s.eve := by
  unfold State.updateMember; split <;> rfl
@[simp] theorem State.updateMember_atc (s : State) (m n : Nat) : (s.updateMember m n).atc = s.atc := by
  unfold State.updateMember; split <;> rfl
@[simp] theorem State.updateMember_cle (s : State) (m n : Nat) : (s.updateMember m n).cle = s.cle := by
  unfold State.updateMember; split <;> rfl
@[simp] theorem State.updateMember_lbp (s : State) (m n : Nat) : (s.updateMember m n).lbp = s.lbp := by
  unfold State.updateMember; split <;> rfl
@[simp] theorem State.updateMember_tlp (s : State) (m n : Nat) : (s.updateMember m n).tlp = s.tlp := by
  unfold State.updateMember; split <;> rfl
@[simp] theorem State.updateMember_inReset (s : State) (m n : Nat) : (s.updateMember m n).inReset = s.inReset := by
  unfold State.updateMember; split <;> rfl
@[simp] theorem State.updateMember_dueChoices (s : State) (m n : Nat) : (s.updateMember m n).dueChoices = s.dueChoices := by
  unfold State.updateMember; split <;> rfl
@[simp] theorem State.updateMember_pending (s : State) (m n : Nat) : (s.updateMember m n).pending = s.pending := by
  unfold State.updateMember; split <;> rfl

/-! ### `insertMember` -/

@[simp] theorem State.insertMember_stc (s : State) (m n : Nat) : (s.insertMember m n).stc = s.stc := by
  unfold State.insertMember; split <;> rfl
@[simp] theorem State.insertMember_ptb (s : State) (m n : Nat) : (s.insertMember m n).ptb = s.ptb := by
  unfold State.insertMember; split <;> rfl
@[simp] theorem State.insertMember_bst (s : State) (m n : Nat) : (s.insertMember m n).bst = s.bst := by
  unfold State.insertMember; split <;> rfl
@[simp] theorem State.insertMember_eve (s : State) (m n : Nat) : (s.insertMember m n).eve = s.eve := by
  unfold State.insertMember; split <;> rfl
@[simp] theorem State.insertMember_atc (s : State) (m n : Nat) : (s.insertMember m n).atc = s.atc := by
  unfold State.insertMember; split <;> rfl
@[simp] theorem State.insertMember_cle (s : State) (m n : Nat) : (s.insertMember m n).cle = s.cle := by
  unfold State.insertMember; split <;> rfl
@[simp] theorem State.insertMember_lbp (s : State) (m n : Nat) : (s.insertMember m n).lbp = s.lbp := by
  unfold State.insertMember; split <;> rfl
@[simp] theorem State.insertMember_tlp (s : State) (m n : Nat) : (s.insertMember m n).tlp = s.tlp := by
  unfold State.insertMember; split <;> rfl
@[simp] theorem State.insertMember_inReset (s : State) (m n : Nat) : (s.insertMember m n).inReset = s.inReset := by
  unfold State.insertMember; split <;> rfl
@[simp] theorem State.insertMember_dueChoices (s : State) (m n : Nat) : (s.insertMember m n).dueChoices = s.dueChoices := by
  unfold State.insertMember; split <;> rfl
@[simp] theorem State.insertMember_pending (s : State) (m n : Nat) : (s.insertMember m n).pending = s.pending := by
  unfold State.insertMember; split <;> rfl

/-! ### `addRedeemed` -/

@[simp] theorem State.addRedeemed_stc (s : State) (m p : Nat) : (s.addRedeemed m p).stc = s.stc := by
  unfold State.addRedeemed; dsimp only; split <;> simp
@[simp] theorem State.addRedeemed_ptb (s : State) (m p : Nat) : (s.addRedeemed m p).ptb = s.ptb := by
  unfold State.addRedeemed; dsimp only; split <;> simp
@[simp] theorem State.addRedeemed_bst (s : State) (m p : Nat) : (s.addRedeemed m p).bst = s.bst := by
  unfold State.addRedeemed; dsimp only; split <;> simp
@[simp] theorem State.addRedeemed_eve (s : State) (m p : Nat) : (s.addRedeemed m p).eve = s.eve := by
  unfold State.addRedeemed; dsimp only; split <;> simp
@[simp] theorem State.addRedeemed_atc (s : State) (m p : Nat) : (s.addRedeemed m p).atc = s.atc := by
  unfold State.addRedeemed; dsimp only; split <;> simp
@[simp] theorem State.addRedeemed_cle (s : State) (m p : Nat) : (s.addRedeemed m p).cle = s.cle := by
  unfold State.addRedeemed; dsimp only; split <;> simp
@[simp] theorem State.addRedeemed_lbp (s : State) (m p : Nat) : (s.addRedeemed m p).lbp = s.lbp := by
  unfold State.addRedeemed; dsimp only; split <;> simp
@[simp] theorem State.addRedeemed_tlp (s : State) (m p : Nat) : (s.addRedeemed m p).tlp = s.tlp := by
  unfold State.addRedeemed; dsimp only; split <;> simp
@[simp] theorem State.addRedeemed_inReset (s : State) (m p : Nat) : (s.addRedeemed m p).inReset = s.inReset := by
  unfold State.addRedeemed; dsimp only; split <;> simp
@[simp] theorem State.addRedeemed_dueChoices (s : State) (m p : Nat) : (s.addRedeemed m p).dueChoices = s.dueChoices := by
  unfold State.addRedeemed; dsimp only; split <;> simp
@[simp] theorem State.addRedeemed_pending (s : State) (m p : Nat) : (s.addRedeemed m p).pending = s.pending := by
  unfold State.addRedeemed; dsimp only; split <;> simp

/-! ### `subRedeemed` -/

@[simp] theorem State.subRedeemed_stc (s : State) (m p : Nat) : (s.subRedeemed m p).stc = s.stc := by
  unfold State.subRedeemed; split <;> simp
@[simp] theorem State.subRedeemed_ptb (s : State) (m p : Nat) : (s.subRedeemed m p).ptb = s.ptb := by
  unfold State.subRedeemed; split <;> simp
@[simp] theorem State.subRedeemed_bst (s : State) (m p : Nat) : (s.subRedeemed m p).bst = s.bst := by
  unfold State.subRedeemed; split <;> simp
@[simp] theorem State.subRedeemed_eve (s : State) (m p : Nat) : (s.subRedeemed m p).eve = s.eve := by
  unfold State.subRedeemed; split <;> simp
@[simp] theorem State.subRedeemed_atc (s : State) (m p : Nat) : (s.subRedeemed m p).atc = s.atc := by
  unfold State.subRedeemed; split <;> simp
@[simp] theorem State.subRedeemed_cle (s : State) (m p : Nat) : (s.subRedeemed m p).cle = s.cle := by
  unfold State.subRedeemed; split <;> simp
@[simp] theorem State.subRedeemed_lbp (s : State) (m p : Nat) : (s.subRedeemed m p).lbp = s.lbp := by
  unfold State.subRedeemed; split <;> simp
@[simp] theorem State.subRedeemed_tlp (s : State) (m p : Nat) : (s.subRedeemed m p).tlp = s.tlp := by
  unfold State.subRedeemed; split <;> simp
@[simp] theorem State.subRedeemed_inReset (s : State) (m p : Nat) : (s.subRedeemed m p).inReset = s.inReset := by
  unfold State.subRedeemed; split <;> simp
@[simp] theorem State.subRedeemed_dueChoices (s : State) (m p : Nat) : (s.subRedeemed m p).dueChoices = s.dueChoices := by
  unfold State.subRedeemed; split <;> simp
@[simp] theorem State.subRedeemed_pending (s : State) (m p : Nat) : (s.subRedeemed m p).pending = s.pending := by
  unfold State.subRedeemed; split <;> simp

/-! ### `sawLoss` and `landed` -/

@[simp] theorem State.sawLoss_stc (s : State) : s.sawLoss.stc = s.stc := rfl
@[simp] theorem State.sawLoss_ptb (s : State) : s.sawLoss.ptb = s.ptb := rfl
@[simp] theorem State.sawLoss_bst (s : State) : s.sawLoss.bst = s.bst := rfl
@[simp] theorem State.sawLoss_eve (s : State) : s.sawLoss.eve = s.eve := rfl
@[simp] theorem State.sawLoss_atc (s : State) : s.sawLoss.atc = s.atc := rfl
@[simp] theorem State.sawLoss_cle (s : State) : s.sawLoss.cle = s.cle := rfl
@[simp] theorem State.sawLoss_pst (s : State) : s.sawLoss.pst = s.pst := rfl
@[simp] theorem State.sawLoss_lbp (s : State) : s.sawLoss.lbp = s.lbp := rfl
@[simp] theorem State.sawLoss_inReset (s : State) : s.sawLoss.inReset = s.inReset := rfl
@[simp] theorem State.sawLoss_dueChoices (s : State) : s.sawLoss.dueChoices = s.dueChoices := rfl
@[simp] theorem State.sawLoss_pending (s : State) : s.sawLoss.pending = s.pending := rfl
@[simp] theorem State.sawLoss_responses (s : State) : s.sawLoss.tlp.responses = s.tlp.responses := rfl
@[simp] theorem State.sawLoss_notices (s : State) : s.sawLoss.tlp.notices = s.tlp.notices := rfl
@[simp] theorem State.sawLoss_tags (s : State) : s.sawLoss.tlp.tags = s.tlp.tags := rfl
@[simp] theorem State.sawLoss_noticesLost (s : State) : s.sawLoss.tlp.noticesLost = s.tlp.noticesLost := rfl
@[simp] theorem State.sawLoss_restarted (s : State) : s.sawLoss.tlp.restarted = s.tlp.restarted := rfl
@[simp] theorem State.sawLoss_tsdo (s : State) : s.sawLoss.tlp.tsdo = s.tlp.tsdo := rfl
@[simp] theorem State.sawLoss_lossUnseen (s : State) : s.sawLoss.tlp.lossUnseen = false := rfl

/-- A transfer that has already ended changes nothing more. -/
theorem State.sawLoss_eq (s : State) (h : s.tlp.lossUnseen = false) : s.sawLoss = s := by
  unfold State.sawLoss; rw [← h]

@[simp] theorem State.landed_stc (s : State) : s.landed.stc = s.stc := rfl
@[simp] theorem State.landed_ptb (s : State) : s.landed.ptb = s.ptb := rfl
@[simp] theorem State.landed_bst (s : State) : s.landed.bst = s.bst := rfl
@[simp] theorem State.landed_eve (s : State) : s.landed.eve = s.eve := rfl
@[simp] theorem State.landed_atc (s : State) : s.landed.atc = s.atc := rfl
@[simp] theorem State.landed_pst (s : State) : s.landed.pst = s.pst := rfl
@[simp] theorem State.landed_lbp (s : State) : s.landed.lbp = s.lbp := rfl
@[simp] theorem State.landed_tlp (s : State) : s.landed.tlp = s.tlp := rfl
@[simp] theorem State.landed_inReset (s : State) : s.landed.inReset = s.inReset := rfl
@[simp] theorem State.landed_dueChoices (s : State) : s.landed.dueChoices = s.dueChoices := rfl
@[simp] theorem State.landed_pending (s : State) : s.landed.pending = s.pending := rfl
@[simp] theorem State.landed_queue (s : State) : s.landed.cle.queue = s.cle.queue := rfl
@[simp] theorem State.landed_inFlight (s : State) : s.landed.cle.inFlight = .none := rfl

/-! ### `writeColumn` -/

@[simp] theorem State.writeColumn_stc (s : State) (a t n : Nat) : (s.writeColumn a t n).stc = s.stc := by
  unfold State.writeColumn; split <;> rfl
@[simp] theorem State.writeColumn_ptb (s : State) (a t n : Nat) : (s.writeColumn a t n).ptb = s.ptb := by
  unfold State.writeColumn; split <;> rfl
@[simp] theorem State.writeColumn_bst (s : State) (a t n : Nat) : (s.writeColumn a t n).bst = s.bst := by
  unfold State.writeColumn; split <;> rfl
@[simp] theorem State.writeColumn_eve (s : State) (a t n : Nat) : (s.writeColumn a t n).eve = s.eve := by
  unfold State.writeColumn; split <;> rfl
@[simp] theorem State.writeColumn_atc (s : State) (a t n : Nat) : (s.writeColumn a t n).atc = s.atc := by
  unfold State.writeColumn; split <;> rfl
@[simp] theorem State.writeColumn_cle (s : State) (a t n : Nat) : (s.writeColumn a t n).cle = s.cle := by
  unfold State.writeColumn; split <;> rfl
@[simp] theorem State.writeColumn_lbp (s : State) (a t n : Nat) : (s.writeColumn a t n).lbp = s.lbp := by
  unfold State.writeColumn; split <;> rfl
@[simp] theorem State.writeColumn_tlp (s : State) (a t n : Nat) : (s.writeColumn a t n).tlp = s.tlp := by
  unfold State.writeColumn; split <;> rfl
@[simp] theorem State.writeColumn_inReset (s : State) (a t n : Nat) : (s.writeColumn a t n).inReset = s.inReset := by
  unfold State.writeColumn; split <;> rfl
@[simp] theorem State.writeColumn_dueChoices (s : State) (a t n : Nat) : (s.writeColumn a t n).dueChoices = s.dueChoices := by
  unfold State.writeColumn; split <;> rfl
@[simp] theorem State.writeColumn_pending (s : State) (a t n : Nat) : (s.writeColumn a t n).pending = s.pending := by
  unfold State.writeColumn; split <;> rfl

/-! ### `releaseUnits` -/

@[simp] theorem State.releaseUnits_stc (s : State) (a n : Nat) : (s.releaseUnits a n).stc = s.stc := by
  unfold State.releaseUnits; split <;> rfl
@[simp] theorem State.releaseUnits_ptb (s : State) (a n : Nat) : (s.releaseUnits a n).ptb = s.ptb := by
  unfold State.releaseUnits; split <;> rfl
@[simp] theorem State.releaseUnits_bst (s : State) (a n : Nat) : (s.releaseUnits a n).bst = s.bst := by
  unfold State.releaseUnits; split <;> rfl
@[simp] theorem State.releaseUnits_eve (s : State) (a n : Nat) : (s.releaseUnits a n).eve = s.eve := by
  unfold State.releaseUnits; split <;> rfl
@[simp] theorem State.releaseUnits_atc (s : State) (a n : Nat) : (s.releaseUnits a n).atc = s.atc := by
  unfold State.releaseUnits; split <;> rfl
@[simp] theorem State.releaseUnits_pst (s : State) (a n : Nat) : (s.releaseUnits a n).pst = s.pst := by
  unfold State.releaseUnits; split <;> rfl
@[simp] theorem State.releaseUnits_lbp (s : State) (a n : Nat) : (s.releaseUnits a n).lbp = s.lbp := by
  unfold State.releaseUnits; split <;> rfl
@[simp] theorem State.releaseUnits_tlp (s : State) (a n : Nat) : (s.releaseUnits a n).tlp = s.tlp := by
  unfold State.releaseUnits; split <;> rfl
@[simp] theorem State.releaseUnits_inReset (s : State) (a n : Nat) : (s.releaseUnits a n).inReset = s.inReset := by
  unfold State.releaseUnits; split <;> rfl
@[simp] theorem State.releaseUnits_dueChoices (s : State) (a n : Nat) : (s.releaseUnits a n).dueChoices = s.dueChoices := by
  unfold State.releaseUnits; split <;> rfl
@[simp] theorem State.releaseUnits_pending (s : State) (a n : Nat) : (s.releaseUnits a n).pending = s.pending := by
  unfold State.releaseUnits; split <;> rfl

/-! ### `startJoinWindow` -/

@[simp] theorem State.startJoinWindow_ptb (s : State) : (s.startJoinWindow).ptb = s.ptb := by
  unfold State.startJoinWindow; split <;> rfl
@[simp] theorem State.startJoinWindow_bst (s : State) : (s.startJoinWindow).bst = s.bst := by
  unfold State.startJoinWindow; split <;> rfl
@[simp] theorem State.startJoinWindow_eve (s : State) : (s.startJoinWindow).eve = s.eve := by
  unfold State.startJoinWindow; split <;> rfl
@[simp] theorem State.startJoinWindow_atc (s : State) : (s.startJoinWindow).atc = s.atc := by
  unfold State.startJoinWindow; split <;> rfl
@[simp] theorem State.startJoinWindow_cle (s : State) : (s.startJoinWindow).cle = s.cle := by
  unfold State.startJoinWindow; split <;> rfl
@[simp] theorem State.startJoinWindow_pst (s : State) : (s.startJoinWindow).pst = s.pst := by
  unfold State.startJoinWindow; split <;> rfl
@[simp] theorem State.startJoinWindow_lbp (s : State) : (s.startJoinWindow).lbp = s.lbp := by
  unfold State.startJoinWindow; split <;> rfl
@[simp] theorem State.startJoinWindow_tlp (s : State) : (s.startJoinWindow).tlp = s.tlp := by
  unfold State.startJoinWindow; split <;> rfl
@[simp] theorem State.startJoinWindow_inReset (s : State) : (s.startJoinWindow).inReset = s.inReset := by
  unfold State.startJoinWindow; split <;> rfl
@[simp] theorem State.startJoinWindow_dueChoices (s : State) : (s.startJoinWindow).dueChoices = s.dueChoices := by
  unfold State.startJoinWindow; split <;> rfl
@[simp] theorem State.startJoinWindow_pending (s : State) : (s.startJoinWindow).pending = s.pending := by
  unfold State.startJoinWindow; split <;> rfl

/-! ### `startScan` -/

@[simp] theorem State.startScan_stc (s : State) : (s.startScan).stc = s.stc := by
  unfold State.startScan; split <;> first | rfl | (split <;> rfl)
@[simp] theorem State.startScan_ptb (s : State) : (s.startScan).ptb = s.ptb := by
  unfold State.startScan; split <;> first | rfl | (split <;> rfl)
@[simp] theorem State.startScan_bst (s : State) : (s.startScan).bst = s.bst := by
  unfold State.startScan; split <;> first | rfl | (split <;> rfl)
@[simp] theorem State.startScan_atc (s : State) : (s.startScan).atc = s.atc := by
  unfold State.startScan; split <;> first | rfl | (split <;> rfl)
@[simp] theorem State.startScan_cle (s : State) : (s.startScan).cle = s.cle := by
  unfold State.startScan; split <;> first | rfl | (split <;> rfl)
@[simp] theorem State.startScan_pst (s : State) : (s.startScan).pst = s.pst := by
  unfold State.startScan; split <;> first | rfl | (split <;> rfl)
@[simp] theorem State.startScan_lbp (s : State) : (s.startScan).lbp = s.lbp := by
  unfold State.startScan; split <;> first | rfl | (split <;> rfl)
@[simp] theorem State.startScan_tlp (s : State) : (s.startScan).tlp = s.tlp := by
  unfold State.startScan; split <;> first | rfl | (split <;> rfl)
@[simp] theorem State.startScan_inReset (s : State) : (s.startScan).inReset = s.inReset := by
  unfold State.startScan; split <;> first | rfl | (split <;> rfl)
@[simp] theorem State.startScan_dueChoices (s : State) : (s.startScan).dueChoices = s.dueChoices := by
  unfold State.startScan; split <;> first | rfl | (split <;> rfl)
@[simp] theorem State.startScan_pending (s : State) : (s.startScan).pending = s.pending := by
  unfold State.startScan; split <;> first | rfl | (split <;> rfl)

/-! ### `trigger` -/

@[simp] theorem State.trigger_stc (s : State) : (s.trigger).stc = s.stc := by
  unfold State.trigger; split <;> first | (simp; done) | (split <;> simp)
@[simp] theorem State.trigger_ptb (s : State) : (s.trigger).ptb = s.ptb := by
  unfold State.trigger; split <;> first | (simp; done) | (split <;> simp)
@[simp] theorem State.trigger_bst (s : State) : (s.trigger).bst = s.bst := by
  unfold State.trigger; split <;> first | (simp; done) | (split <;> simp)
@[simp] theorem State.trigger_atc (s : State) : (s.trigger).atc = s.atc := by
  unfold State.trigger; split <;> first | (simp; done) | (split <;> simp)
@[simp] theorem State.trigger_cle (s : State) : (s.trigger).cle = s.cle := by
  unfold State.trigger; split <;> first | (simp; done) | (split <;> simp)
@[simp] theorem State.trigger_pst (s : State) : (s.trigger).pst = s.pst := by
  unfold State.trigger; split <;> first | (simp; done) | (split <;> simp)
@[simp] theorem State.trigger_lbp (s : State) : (s.trigger).lbp = s.lbp := by
  unfold State.trigger; split <;> first | (simp; done) | (split <;> simp)
@[simp] theorem State.trigger_tlp (s : State) : (s.trigger).tlp = s.tlp := by
  unfold State.trigger; split <;> first | (simp; done) | (split <;> simp)
@[simp] theorem State.trigger_inReset (s : State) : (s.trigger).inReset = s.inReset := by
  unfold State.trigger; split <;> first | (simp; done) | (split <;> simp)
@[simp] theorem State.trigger_dueChoices (s : State) : (s.trigger).dueChoices = s.dueChoices := by
  unfold State.trigger; split <;> first | (simp; done) | (split <;> simp)
@[simp] theorem State.trigger_pending (s : State) : (s.trigger).pending = s.pending := by
  unfold State.trigger; split <;> first | (simp; done) | (split <;> simp)

/-! ### `triggerActive` -/

@[simp] theorem State.triggerActive_stc (s : State) : (s.triggerActive).stc = s.stc := by
  unfold State.triggerActive; split <;> simp
@[simp] theorem State.triggerActive_ptb (s : State) : (s.triggerActive).ptb = s.ptb := by
  unfold State.triggerActive; split <;> simp
@[simp] theorem State.triggerActive_bst (s : State) : (s.triggerActive).bst = s.bst := by
  unfold State.triggerActive; split <;> simp
@[simp] theorem State.triggerActive_atc (s : State) : (s.triggerActive).atc = s.atc := by
  unfold State.triggerActive; split <;> simp
@[simp] theorem State.triggerActive_cle (s : State) : (s.triggerActive).cle = s.cle := by
  unfold State.triggerActive; split <;> simp
@[simp] theorem State.triggerActive_pst (s : State) : (s.triggerActive).pst = s.pst := by
  unfold State.triggerActive; split <;> simp
@[simp] theorem State.triggerActive_lbp (s : State) : (s.triggerActive).lbp = s.lbp := by
  unfold State.triggerActive; split <;> simp
@[simp] theorem State.triggerActive_tlp (s : State) : (s.triggerActive).tlp = s.tlp := by
  unfold State.triggerActive; split <;> simp
@[simp] theorem State.triggerActive_inReset (s : State) : (s.triggerActive).inReset = s.inReset := by
  unfold State.triggerActive; split <;> simp
@[simp] theorem State.triggerActive_dueChoices (s : State) : (s.triggerActive).dueChoices = s.dueChoices := by
  unfold State.triggerActive; split <;> simp
@[simp] theorem State.triggerActive_pending (s : State) : (s.triggerActive).pending = s.pending := by
  unfold State.triggerActive; split <;> simp

/-! ### `raiseRevision` -/

@[simp] theorem State.raiseRevision_stc (s : State) (i : Fin 4) : (s.raiseRevision i).stc = s.stc := by
  unfold State.raiseRevision; dsimp only; split <;> simp
@[simp] theorem State.raiseRevision_ptb (s : State) (i : Fin 4) : (s.raiseRevision i).ptb = s.ptb := by
  unfold State.raiseRevision; dsimp only; split <;> simp
@[simp] theorem State.raiseRevision_atc (s : State) (i : Fin 4) : (s.raiseRevision i).atc = s.atc := by
  unfold State.raiseRevision; dsimp only; split <;> simp
@[simp] theorem State.raiseRevision_cle (s : State) (i : Fin 4) : (s.raiseRevision i).cle = s.cle := by
  unfold State.raiseRevision; dsimp only; split <;> simp
@[simp] theorem State.raiseRevision_pst (s : State) (i : Fin 4) : (s.raiseRevision i).pst = s.pst := by
  unfold State.raiseRevision; dsimp only; split <;> simp
@[simp] theorem State.raiseRevision_lbp (s : State) (i : Fin 4) : (s.raiseRevision i).lbp = s.lbp := by
  unfold State.raiseRevision; dsimp only; split <;> simp
@[simp] theorem State.raiseRevision_tlp (s : State) (i : Fin 4) : (s.raiseRevision i).tlp = s.tlp := by
  unfold State.raiseRevision; dsimp only; split <;> simp
@[simp] theorem State.raiseRevision_inReset (s : State) (i : Fin 4) : (s.raiseRevision i).inReset = s.inReset := by
  unfold State.raiseRevision; dsimp only; split <;> simp
@[simp] theorem State.raiseRevision_dueChoices (s : State) (i : Fin 4) : (s.raiseRevision i).dueChoices = s.dueChoices := by
  unfold State.raiseRevision; dsimp only; split <;> simp
@[simp] theorem State.raiseRevision_pending (s : State) (i : Fin 4) : (s.raiseRevision i).pending = s.pending := by
  unfold State.raiseRevision; dsimp only; split <;> simp

/-! ### `dropTotal` -/

@[simp] theorem State.dropTotal_stc (s : State) : (s.dropTotal).stc = s.stc := by
  unfold State.dropTotal; split <;> rfl
@[simp] theorem State.dropTotal_ptb (s : State) : (s.dropTotal).ptb = s.ptb := by
  unfold State.dropTotal; split <;> rfl
@[simp] theorem State.dropTotal_bst (s : State) : (s.dropTotal).bst = s.bst := by
  unfold State.dropTotal; split <;> rfl
@[simp] theorem State.dropTotal_atc (s : State) : (s.dropTotal).atc = s.atc := by
  unfold State.dropTotal; split <;> rfl
@[simp] theorem State.dropTotal_cle (s : State) : (s.dropTotal).cle = s.cle := by
  unfold State.dropTotal; split <;> rfl
@[simp] theorem State.dropTotal_pst (s : State) : (s.dropTotal).pst = s.pst := by
  unfold State.dropTotal; split <;> rfl
@[simp] theorem State.dropTotal_lbp (s : State) : (s.dropTotal).lbp = s.lbp := by
  unfold State.dropTotal; split <;> rfl
@[simp] theorem State.dropTotal_inReset (s : State) : (s.dropTotal).inReset = s.inReset := by
  unfold State.dropTotal; split <;> rfl
@[simp] theorem State.dropTotal_dueChoices (s : State) : (s.dropTotal).dueChoices = s.dueChoices := by
  unfold State.dropTotal; split <;> rfl
@[simp] theorem State.dropTotal_pending (s : State) : (s.dropTotal).pending = s.pending := by
  unfold State.dropTotal; split <;> rfl

/-! ### `examineTotal` -/

@[simp] theorem State.examineTotal_stc (s : State) : (s.examineTotal).stc = s.stc := by
  unfold State.examineTotal; split <;> first | rfl | (split <;> first | rfl | (split <;> rfl))
@[simp] theorem State.examineTotal_ptb (s : State) : (s.examineTotal).ptb = s.ptb := by
  unfold State.examineTotal; split <;> first | rfl | (split <;> first | rfl | (split <;> rfl))
@[simp] theorem State.examineTotal_bst (s : State) : (s.examineTotal).bst = s.bst := by
  unfold State.examineTotal; split <;> first | rfl | (split <;> first | rfl | (split <;> rfl))
@[simp] theorem State.examineTotal_atc (s : State) : (s.examineTotal).atc = s.atc := by
  unfold State.examineTotal; split <;> first | rfl | (split <;> first | rfl | (split <;> rfl))
@[simp] theorem State.examineTotal_cle (s : State) : (s.examineTotal).cle = s.cle := by
  unfold State.examineTotal; split <;> first | rfl | (split <;> first | rfl | (split <;> rfl))
@[simp] theorem State.examineTotal_pst (s : State) : (s.examineTotal).pst = s.pst := by
  unfold State.examineTotal; split <;> first | rfl | (split <;> first | rfl | (split <;> rfl))
@[simp] theorem State.examineTotal_lbp (s : State) : (s.examineTotal).lbp = s.lbp := by
  unfold State.examineTotal; split <;> first | rfl | (split <;> first | rfl | (split <;> rfl))
@[simp] theorem State.examineTotal_inReset (s : State) : (s.examineTotal).inReset = s.inReset := by
  unfold State.examineTotal; split <;> first | rfl | (split <;> first | rfl | (split <;> rfl))
@[simp] theorem State.examineTotal_dueChoices (s : State) : (s.examineTotal).dueChoices = s.dueChoices := by
  unfold State.examineTotal; split <;> first | rfl | (split <;> first | rfl | (split <;> rfl))
@[simp] theorem State.examineTotal_pending (s : State) : (s.examineTotal).pending = s.pending := by
  unfold State.examineTotal; split <;> first | rfl | (split <;> first | rfl | (split <;> rfl))

end Sys2Proof.Machine
end

