-- ==== Sys2Proof/Laws/Tables.lean ====
section
/-!
SUPPORT. The laws of the sparse tables and of the slots: what is read after a write, that a write leaves every other place alone, and that
every operation keeps the canonical form.
-/

namespace Sys2Proof.Machine

/-! ## Reading after writing -/

theorem tableGet_tablePut {ν : Type} (k m : Nat) (v : ν) (t : Table ν) :
    tableGet m (tablePut k v t) = if m = k then some v else tableGet m t := by
  induction t with
  | nil =>
    simp only [tablePut, tableGet]
    by_cases h : m = k
    · rw [if_pos h, if_pos h.symm]
    · rw [if_neg h, if_neg (Ne.symm h)]
  | cons e t ih =>
    obtain ⟨k', v'⟩ := e
    simp only [tablePut]
    by_cases h : m = k
    · subst h
      split
      · simp [tableGet]
      · split
        · simp [tableGet]
        · simp only [tableGet, ih, if_neg (Ne.symm ‹¬ m = k'›), if_pos]
    · have h' : ¬ k = m := Ne.symm h
      split
      · simp only [tableGet, if_neg h']
      · split
        · subst_vars
          simp only [tableGet, if_neg h']
        · simp only [tableGet, ih, if_neg h]

theorem tableGet_tableErase {ν : Type} (k m : Nat) (t : Table ν) :
    tableGet m (tableErase k t) = if m = k then none else tableGet m t := by
  induction t with
  | nil => simp [tableErase, tableGet]
  | cons e t ih =>
    obtain ⟨k', v'⟩ := e
    simp only [tableErase]
    split
    · subst_vars
      rw [ih]
      by_cases h : m = k'
      · rw [if_pos h, if_pos h]
      · rw [if_neg h, if_neg h]; simp only [tableGet, if_neg (Ne.symm h)]
    · simp only [tableGet, ih]
      by_cases h : k' = m
      · subst h; rw [if_pos rfl, if_pos rfl, if_neg ‹_›]
      · rw [if_neg h, if_neg h]

theorem countGet_countSet (k m n : Nat) (c : Counts) :
    countGet m (countSet k n c) = if m = k then n else countGet m c := by
  unfold countGet countSet
  split
  · rw [tableGet_tableErase]; split <;> simp_all
  · rw [tableGet_tablePut]; split <;> simp_all

/-! ## The canonical form -/

theorem tableWf_iff {ν : Type} (t : Table ν) : tableWf t = true ↔ (t.map Prod.fst).Pairwise (· < ·) := by
  simp [tableWf]

theorem mem_tablePut {ν : Type} (k : Nat) (v : ν) (t : Table ν) (e : Nat × ν) :
    e ∈ tablePut k v t → e = (k, v) ∨ e ∈ t := by
  induction t with
  | nil => simp [tablePut]
  | cons d t ih =>
    obtain ⟨k', v'⟩ := d
    simp only [tablePut]
    split
    · simp
    · split <;> simp only [List.mem_cons] <;> tauto

theorem mem_tableErase {ν : Type} (k : Nat) (t : Table ν) (e : Nat × ν) : e ∈ tableErase k t → e ∈ t := by
  induction t with
  | nil => simp [tableErase]
  | cons d t ih =>
    obtain ⟨k', v'⟩ := d
    simp only [tableErase]
    split <;> simp only [List.mem_cons] <;> tauto

theorem tableWf_tablePut {ν : Type} (k : Nat) (v : ν) (t : Table ν) (h : tableWf t = true) :
    tableWf (tablePut k v t) = true := by
  rw [tableWf_iff] at *
  induction t with
  | nil => simp [tablePut]
  | cons d t ih =>
    obtain ⟨k', v'⟩ := d
    simp only [List.map_cons, List.pairwise_cons, List.mem_map, forall_exists_index, and_imp,
      forall_apply_eq_imp_iff₂] at h
    simp only [tablePut]
    split
    · simp only [List.map_cons, List.pairwise_cons, List.mem_cons, List.mem_map]
      refine ⟨?_, by simpa using h⟩
      rintro a (rfl | ⟨e, he, rfl⟩)
      · assumption
      · exact lt_trans ‹_› (h.1 e he)
    · split
      · subst_vars; simpa using h
      · simp only [List.map_cons, List.pairwise_cons, List.mem_map]
        refine ⟨?_, ih h.2⟩
        rintro a ⟨e, he, rfl⟩
        rcases mem_tablePut _ _ _ _ he with rfl | he
        · show k' < k; omega
        · exact h.1 e he

theorem tableWf_tableErase {ν : Type} (k : Nat) (t : Table ν) (h : tableWf t = true) :
    tableWf (tableErase k t) = true := by
  rw [tableWf_iff] at *
  induction t with
  | nil => simp [tableErase]
  | cons d t ih =>
    obtain ⟨k', v'⟩ := d
    simp only [List.map_cons, List.pairwise_cons, List.mem_map, forall_exists_index, and_imp,
      forall_apply_eq_imp_iff₂] at h
    simp only [tableErase]
    split
    · exact ih h.2
    · simp only [List.map_cons, List.pairwise_cons, List.mem_map]
      refine ⟨?_, ih h.2⟩
      rintro a ⟨e, he, rfl⟩
      exact h.1 e (mem_tableErase _ _ _ he)

theorem countsWf_countSet (k n : Nat) (c : Counts) (h : countsWf c = true) : countsWf (countSet k n c) = true := by
  simp only [countsWf, Bool.and_eq_true, List.all_eq_true, bne_iff_ne, ne_eq] at *
  unfold countSet
  split
  · exact ⟨tableWf_tableErase _ _ h.1, fun e he => h.2 e (mem_tableErase _ _ _ he)⟩
  · refine ⟨tableWf_tablePut _ _ _ h.1, fun e he => ?_⟩
    rcases mem_tablePut _ _ _ _ he with rfl | he
    · assumption
    · exact h.2 e he

/-! ## Slots -/

@[simp] theorem Slots.get_set (b : Slots) (i j : Fin 4) (v : Option Basket) :
    (b.set i v).get j = if j = i then v else b.get j := by
  fin_cases i <;> fin_cases j <;> rfl

theorem Slots.ext_get (a b : Slots) (h : ∀ i, a.get i = b.get i) : a = b := by
  obtain ⟨a0, a1, a2, a3⟩ := a
  obtain ⟨b0, b1, b2, b3⟩ := b
  have h0 := h 0
  have h1 := h 1
  have h2 := h 2
  have h3 := h 3
  simp only [Slots.get] at h0 h1 h2 h3
  subst_vars
  rfl

@[simp] theorem Slots.set_set (b : Slots) (i : Fin 4) (v w : Option Basket) : (b.set i v).set i w = b.set i w := by
  fin_cases i <;> rfl

@[simp] theorem Slots.set_get (b : Slots) (i : Fin 4) : b.set i (b.get i) = b := by
  fin_cases i <;> rfl

/-- The active slot stays the active one when what it holds is replaced by a basket that is active too. -/
theorem Slots.active_set (b : Slots) (i : Fin 4) (v : Basket) (h : b.active = some i) (hv : v.state ≠ .parked) :
    (b.set i (some v)).active = some i := by
  have hv' : (v.state != .parked) = true := by simpa using hv
  fin_cases i <;>
    · simp only [Slots.active, slotNumbers, List.find?_cons, List.find?_nil, slotActive, Slots.get, Slots.set] at h ⊢
      simp only [hv']
      repeat' split at h
      all_goals simp_all

end Sys2Proof.Machine
end

