-- ==== Sys2Proof/Laws/Requests.lean ====
section
/-!
SUPPORT. What a request passes through, once: discarded, refused by a first check, or handed to its owner; and what a change of the
active basket leaves; and what the words of `Safety` for a queue that ends at once come to. Claims about one request cite these and
unfold only the request's own rule.
-/

namespace Sys2Proof.Machine

/-! ## Taking a request -/

/-- The state in which a request's own rule sees the part: the request outstanding, the status byte shown. -/
def taken (s : State) (h : Hdr) : State := { s with tlp := deferredLink s h }

theorem headerOk_length (h : Hdr) (n : Nat) (ok : headerOk h n = true) : 4 ≤ h.length.toNat := by
  simp [headerOk] at ok; omega

theorem takeRequest_discarded (h : Hdr) (c : Instr) (needs : Needs) (owner : State → Answer) (s : State)
    (hr : s.inReset = false) (hd : 8 ≤ s.tlp.tags.length ∨ h.length.toNat < 4) :
    takeRequest h c needs owner s =
      .next { s with tlp := { s.tlp with tsdo := [s.statusByte], restarted := false, lossUnseen := false } } := by
  have : discarded h s = true := by
    unfold discarded
    rcases hd with hd | hd
    · rw [show s.ready = false from decide_eq_false (by simpa [Config.maxOutstanding] using hd)]; rfl
    · rw [decide_eq_true hd]; exact Bool.or_true _
  simp [takeRequest, whenRunning, hr, this, State.transfer]

/-- A request that is offered: the first of the common checks that fails refuses it, and its owner answers it when none does. -/
theorem takeRequest_offered (h : Hdr) (c : Instr) (needs : Needs) (owner : State → Answer) (s : State)
    (hr : s.inReset = false) (hn : s.tlp.tags.length < 8) (hl : 4 ≤ h.length.toNat) :
    takeRequest h c needs owner s = .next (match commonRefusal h c needs s with
      | some r => (taken s h).respond h.tag r
      | none => ((owner (taken s h)).settle h.tag (taken s h)).sawLoss) := by
  have hd : discarded h s = false := by
    unfold discarded
    rw [show s.ready = true from decide_eq_true hn, decide_eq_false (by omega)]; rfl
  simp only [takeRequest, whenRunning, hr, hd]
  rfl

theorem Taken.offered {h : Hdr} {c : Instr} {s : State} (ht : Taken h c s) (hl : 4 ≤ h.length.toNat) : Offered h s :=
  ⟨ht.1, ht.2.1, ht.2.2.1, hl⟩

/-- A request that is taken in a day state that takes it, with an operator where one is needed, is answered by its owner. -/
theorem takeRequest_taken (h : Hdr) (c : Instr) (needs : Needs) (owner : State → Answer) (s : State)
    (ht : Taken h c s) (hl : 4 ≤ h.length.toNat) (hd : needs.days s.stc.day = true)
    (ho : needs.operator = true → s.atc.operator ≠ none) :
    takeRequest h c needs owner s = .next ((owner (taken s h)).settle h.tag (taken s h)).sawLoss := by
  obtain ⟨hr, hn, hg, hw⟩ := ht
  rw [takeRequest_offered _ _ _ _ _ hr hn hl]
  have hw' : wellFormedRecord c = true := hw
  have : commonRefusal h c needs s = none := by
    have ho' : (needs.operator && s.atc.operator.isNone) = false := by
      cases hb : needs.operator
      · rfl
      · have := ho hb
        cases hc : s.atc.operator <;> simp_all
    simp [commonRefusal, hg, hw', hd, ho']
  rw [this]

@[simp] theorem settle_refused (r : Reply) (h : Hdr) (s : State) :
    (Answer.refused r).settle h.tag (taken s h) = { s with tlp := answeredLink s h r.status r.detail r.body } := rfl

/-- A response to a request that changed no other part of the link, once its transfer has ended. -/
@[simp] theorem sawLoss_answered (t : State) (s : State) (h : Hdr) (st : Status) (d : Detail) (body : Body) :
    ({ t with tlp := answeredLink s h st d body } : State).sawLoss = { t with tlp := answeredLink s h st d body } := rfl

@[simp] theorem sawLoss_deferred (t : State) (s : State) (h : Hdr) :
    ({ t with tlp := deferredLink s h } : State).sawLoss = { t with tlp := deferredLink s h } := rfl

theorem settle_answered (t : State) (r : Reply) (h : Hdr) (s : State) :
    (Answer.answered t r).settle h.tag (taken s h) = t.respond h.tag r := rfl

theorem settle_deferred (t : State) (h : Hdr) (s : State) : (Answer.deferred t).settle h.tag (taken s h) = t := rfl

/-- A request to which nothing but the link changes. -/
@[simp] theorem respond_taken (r : Reply) (h : Hdr) (s : State) :
    (taken s h).respond h.tag r = { s with tlp := answeredLink s h r.status r.detail r.body } := rfl

/-! ## The active basket -/

theorem onActive_some (k : Fin 4 → Basket → Answer) (s : State) (i : Fin 4) (b : Basket) (ha : IsActive s i b) :
    onActive k s = k i b := by
  obtain ⟨h₁, h₂⟩ := ha; simp [onActive, h₁, h₂]

theorem onActive_none (k : Fin 4 → Basket → Answer) (s : State) (ha : s.bst.active = none) :
    onActive k s = .refused (refusal .noBasket) := by simp [onActive, ha]

theorem IsActive.taken {s : State} {h : Hdr} {i : Fin 4} {b : Basket} (ha : IsActive s i b) : IsActive (taken s h) i b := ha

theorem IsActive.state_ne {s : State} {i : Fin 4} {b : Basket} (ha : IsActive s i b) : b.state ≠ .parked := by
  obtain ⟨h₁, h₂⟩ := ha
  have := List.find?_some h₁
  simpa [h₂, slotActive] using this

/-! ## A trigger and a raise -/

/-- A trigger while slot `i` is active. -/
theorem trigger_eq (s : State) (i : Fin 4) (b : Basket) (ha : IsActive s i b) :
    s.trigger = { s with eve := triggered s i b } := by
  obtain ⟨h₁, h₂⟩ := ha
  have hs : s.startScan =
      { s with eve := { s.eve with scan := some (newScan i s.stc b), wanted := false, position := .a } } := by
    simp [State.startScan, h₁, h₂]
  unfold State.trigger triggered
  split
  · rename_i h; rw [hs, if_pos (Or.inl h)]
  · rename_i sc h
    split
    · rename_i hp; rw [hs, if_pos (Or.inr hp)]
    · rename_i hp; rw [if_neg]; simp [h, hp]

/-- One request's change of the active basket of slot `i`, which stays in a state that is scanned. -/
theorem changeBasket_eq (s : State) (i : Fin 4) (b : Basket) (f : Basket → Basket) (ha : IsActive s i b)
    (hs : (f b).state.scanned = true) (h4 : ∀ tag, (f b).state ≠ .finalising .f4 tag) :
    s.changeBasket i f = afterChange s i (f b) s.tlp := by
  obtain ⟨h₁, h₂⟩ := ha
  have hr : raisedBasket (f b) = { f b with revision := (f b).revision + 1 } := by
    unfold raisedBasket
    split
    · rename_i tag h; exact absurd h (h4 tag)
    · rfl
  have hset : (s.updateBasket i f).updateBasket i raisedBasket =
      { s with bst := s.bst.set i (some { f b with revision := (f b).revision + 1 }) } := by
    simp [State.updateBasket, State.setSlot, h₂, hr]
  have hp : ({ f b with revision := (f b).revision + 1 } : Basket).state ≠ .parked := by
    intro h; simp [show (f b).state = .parked from h, BasketState.scanned] at hs
  have hact : (s.bst.set i (some { f b with revision := (f b).revision + 1 })).active = some i :=
    Slots.active_set _ _ _ h₁ hp
  have hact' : IsActive { s with bst := s.bst.set i (some { f b with revision := (f b).revision + 1 }) } i
      { f b with revision := (f b).revision + 1 } := ⟨hact, by simp⟩
  unfold State.changeBasket State.raiseRevision
  dsimp only
  rw [hset, if_pos hact]
  have : State.activeScanned { s with bst := s.bst.set i (some { f b with revision := (f b).revision + 1 }) } = true := by
    unfold State.activeScanned; rw [hact]; simpa using hs
  rw [State.triggerActive, if_pos this, trigger_eq _ _ _ hact']
  rfl

/-! ## The queue where claims cannot be sent -/

@[simp] theorem raisedOnce_nil (s : State) : raisedOnce [] s = s := rfl

@[simp] theorem endInOrder_nil (s t : State) (slots : List (Fin 4)) : EndInOrder [] s t slots ↔ slots = [] ∧ t = s := Iff.rfl

theorem endsUnsent_release (k : RecordKind) (s t : State) (slots : List (Fin 4)) (hk : isRelease k = true) :
    EndsUnsent k s t slots ↔ slots = [] ∧ t = s := by
  cases k <;> simp_all [isRelease, EndsUnsent]

/-- Releases in the queue end nothing: what the records after them do is done on the same state. -/
theorem endInOrder_releases (before rest : List Record) (s t : State) (slots : List (Fin 4))
    (hb : ∀ r ∈ before, isRelease r.kind = true) : EndInOrder (before ++ rest) s t slots ↔ EndInOrder rest s t slots := by
  induction before with
  | nil => rfl
  | cons r before ih =>
    rw [List.forall_mem_cons] at hb
    simp [EndInOrder, endsUnsent_release _ _ _ _ hb.1, ih hb.2]

/-- A queue of releases alone is resolved by leaving the state as it is. -/
theorem queueResolved_releases (queue : List Record) (base t : State) (h : ∀ r ∈ queue, isRelease r.kind = true) :
    QueueResolved queue base t ↔ t = base := by
  have := endInOrder_releases queue [] base
  simp only [List.append_nil, endInOrder_nil] at this
  simp [QueueResolved, this _ _ h]

end Sys2Proof.Machine
end

