-- ==== Sys2Proof/Tests/Slice0.lean ====
section
/-!
SUPPORT. Tests on small states: ill-formed records that the first check refuses, the manual's worked figures, and for every obligation with
hypotheses a state that meets them, clause by clause. Expected figures are the manual's own or worked by hand from its rules.
-/

namespace Sys2Proof.Tests

-- One test at a time: the checks of many tests at once would each wait in a thread of its own.
set_option Elab.async false

open Sys2Proof Sys2Proof.Machine

/-! ## Small states -/

/-- The header of a record whose fields take `n` bytes, with tag `t`. -/
def hdr (n : Nat) (t : Byte := 0) : Hdr := ⟨BitVec.ofNat 16 (4 + n), t⟩

/-- Allotment 3 at quantity 150 and the figures of the table of The Promotion Table. -/
def tableHeader : Header :=
  { tableTag := 412, cap := 5000, blockSize := 100, blockValue := 50, rates := [1, 2, 3, 4],
    quantities := [0, 0, 0, 150], band1 := 1000, band2 := 2500, g1 := 3, g2 := 2, g3 := 1, gIncrease := 2, gZero := 1,
    gBasket := 2, gPoints := 2, threshold := 2000 }

/-- The staff list of Overrides and Authority. -/
def staffList : List StaffRecord := [⟨101, 0, 99999999⟩, ⟨205, 2, 5000⟩, ⟨318, 3, 500⟩]

/-- The entry of allotment 3: ALLOTMENT_PRICE 3.49, limit 20, on group 12. -/
def cement : PromoEntry := ⟨.allotmentPrice 3 349, 12, 0xFF, [], 20, false⟩

/-- Station 4, configured with policy FOLLOW and DENY for all three classes. -/
def configuration : Configuration := ⟨4, .till, .kbit125, .follow, .deny, .deny, .deny, 120⟩

/-- A part after power-on whose restarted flag has been read. -/
def fresh : State := { State.reset with tlp := { State.reset.tlp with restarted := false } }

/-- A station in the given day state with a LOADED table and cashier 318 signed on. -/
def station (day : DayState) : State :=
  { fresh with
    stc := { fresh.stc with day := day, config := some configuration, station := 4, fromStraps := false, dayNumber := 38 },
    ptb := { load := .loaded, header := some tableHeader, entries := [(20, cement)], allots := [(3, ⟨150, some 20, 20⟩)],
             staff := staffList },
    atc := { operator := some ⟨318, 3, 500⟩, lal := some 3, stack := [], held := none, timer := none } }

/-- A READY station, its port OFF. -/
def ready : State := station .ready

/-- A TRADING station on an idle bus. -/
def trading : State :=
  { station .trading with
    cle := { Cle.cleared with presence := some 0 },
    lbp := { Lbp.off with bus := some .idle, quiet := true } }

/-- Three screws at 6.49 in group 5. -/
def screws (n : Nat) : Line :=
  { number := n, item := 7, measure := .each, qty := 3, price := 649, groups := [5], eligible := true, live := true,
    override := none, tier := none, consumedUnits := 0, consumedFlag := false, shares := [], extended := 1947,
    net := 1947, points := 0 }

/-- A basket of one line in the given state, its summary current at revision 0. -/
def basket (st : BasketState) : Basket := { Basket.opened with state := st, lines := [screws 1] }

/-- The TRADING station with basket `b` in slot 0. -/
def serving (b : Basket) : State := { trading with bst := ⟨some b, none, none, none⟩ }

/-- The same with an open basket of one line. -/
def selling : State := serving (basket .trading)

/-- The scan of an open basket at its start. -/
def scanOf (b : Basket) : Scan := newScan 0 trading.stc b

/-- The selling station with its engine at a position of a scan. -/
def scanning (p : Position) : State :=
  { selling with eve := { scan := some (scanOf (basket .trading)), wanted := false, position := p, waitingTotal := none } }

/-- The station with `n` outstanding requests of tag 9, whose responses wait. -/
def withOutstanding (n : Nat) (s : State) : State :=
  { s with tlp := { s.tlp with tags := List.replicate n 9, responses := List.replicate n ⟨9, .ok, .none, .none⟩ } }

/-- The station with `n` notices waiting. -/
def withNotices (n : Nat) (lost : Bool) (s : State) : State :=
  { s with tlp := { s.tlp with notices := List.replicate n (.elevationExpired 1 205), noticesLost := lost } }

/-- The station with `q` as its outgoing queue. -/
def withQueue (q : List Record) (s : State) : State := { s with cle := { s.cle with queue := q } }

/-- A SYNC_ASK record. -/
def askRecord : Record := ⟨.syncAsk, 0, 0⟩

/-- An ALLOT_CLAIM record of slot 0 for 4 units of allotment 3. -/
def claimRecord : Record := ⟨.allotClaim (some 0) 3 4, 0, 0⟩

/-- The frame this station builds for a SYNC_ASK. -/
def askFrame : LaneFrame := ⟨4, 38, 412, .syncAsk⟩

/-- The station sending its head record in a tenure's first frame. -/
def sending (q : List Record) (s : State) : State :=
  { s with
    cle := { s.cle with queue := q, inFlight := .head },
    lbp := { s.lbp with bus := some .busy, quiet := false, frame := .sending askFrame, tenure := 1 } }

/-- The station with the bus in the given state. -/
def onBus (b : BusState) (s : State) : State := { s with lbp := { s.lbp with bus := some b, quiet := false } }

/-- The station with the frame in hand given. -/
def inHand (f : FrameInHand) (s : State) : State := { s with lbp := { s.lbp with bus := some .busy, quiet := false, frame := f } }

/-- The elevation frame that AUTHORISE 205 pushes over cashier 318. -/
def frame205 : ElevFrame := ⟨205, 2, 5000, 3⟩

/-- The station with supervisor 205 as the acting person, `ms` left on the timer. -/
def elevated (ms : Nat) (s : State) : State :=
  { s with atc := { s.atc with lal := some 2, stack := [frame205], timer := some ms } }

/-- The station with a line discount of 15 % held for authority in slot 0. -/
def holding : State :=
  { serving (basket .held) with
    atc := { trading.atc with held := some ⟨.line 1 (.discountRate 1500), 292, 2, 0⟩ } }

/-- The station with a notice lost since the last transfer, four waiting. -/
def lossUnshown (s : State) : State :=
  { withNotices 4 true s with tlp := { (withNotices 4 true s).tlp with lossUnseen := true } }

/-- An open basket whose discount of 2.50 is presence-bound at depth 1. -/
def boundBasket : Basket := { basket .trading with discount := some ⟨250, 250, ⟨205, 2, 1, true⟩⟩ }

/-- The station with its bus FAULTED and one policy for all three classes. -/
def faulted (d : Degrade) (s : State) : State :=
  { onBus (.faulted 0) s with
    stc := { s.stc with config := some { configuration with allotPolicy := d, serialPolicy := d, pointsPolicy := d } } }

/-- A claim of an allotment that the table does not define. -/
def unknownClaim : Record := ⟨.allotClaim (some 0) 4 1, 0, 0⟩

/-- The trading station sending the announcement given as the last frame of a tenure. -/
def announcing (a : Announcement) : State :=
  { trading with
    cle := { trading.cle with announcement := some a, inFlight := .announcement },
    lbp := { trading.lbp with bus := some .busy, quiet := false, frame := .sending askFrame, tenure := 4 } }

/-- What a command leaves. -/
def after (c : Instr) (s : State) : State :=
  match exec c s with
  | .next t => t
  | _ => s

/-! ## Ill-formed records are refused (R185, R189, R190) -/

theorem test_length_disagrees : (Instr.total ⟨5, 0⟩).wellFormed = false := by decide
theorem test_tag_above_15 : (Instr.total (hdr 0 16)).wellFormed = false := by decide
theorem test_lane_class_undefined : (Instr.configure (hdr 9) ⟨0, 4, 0, 0, 0, 0, 0, 0⟩).wellFormed = false := by decide
theorem test_bit_rate_undefined : (Instr.configure (hdr 9) ⟨0, 0, 3, 0, 0, 0, 0, 0⟩).wellFormed = false := by decide
theorem test_restart_policy_undefined : (Instr.configure (hdr 9) ⟨0, 0, 0, 2, 0, 0, 0, 0⟩).wellFormed = false := by decide
theorem test_allot_policy_undefined : (Instr.configure (hdr 9) ⟨0, 0, 0, 0, 2, 0, 0, 0⟩).wellFormed = false := by decide
theorem test_serial_policy_undefined : (Instr.configure (hdr 9) ⟨0, 0, 0, 0, 0, 2, 0, 0⟩).wellFormed = false := by decide
theorem test_points_policy_undefined : (Instr.configure (hdr 9) ⟨0, 0, 0, 0, 0, 0, 2, 0⟩).wellFormed = false := by decide
theorem test_promo_kind_undefined : (Instr.loadPromo (hdr 2) 0 (.undefinedKind 9)).wellFormed = false := by decide
theorem test_three_guard_terms :
    (Instr.loadPromo (hdr 25) 0 (.entry ⟨0, 0, [⟨0, 0, 0⟩, ⟨0, 0, 0⟩, ⟨0, 0, 0⟩], 0, false⟩ (.pointsMultiplier 2))).wellFormed = false := by
  decide
theorem test_guard_measure_undefined :
    (Instr.loadPromo (hdr 13) 0 (.entry ⟨0, 0, [⟨6, 0, 0⟩], 0, false⟩ (.pointsMultiplier 2))).wellFormed = false := by decide
theorem test_guard_relation_undefined :
    (Instr.loadPromo (hdr 13) 0 (.entry ⟨0, 0, [⟨0, 6, 0⟩], 0, false⟩ (.pointsMultiplier 2))).wellFormed = false := by decide
theorem test_break_measure_undefined :
    (Instr.loadPromo (hdr 15) 0 (.entry ⟨0, 0, [], 0, false⟩ (.quantityBreak 3 1 1))).wellFormed = false := by decide
theorem test_coupon_value_undefined :
    (Instr.loadPromo (hdr 17) 0 (.entry ⟨0, 0, [], 0, false⟩ (.coupon 7 2 1 1))).wellFormed = false := by decide
theorem test_slot_4 : (Instr.recall (hdr 1) 4).wellFormed = false := by decide
theorem test_void_slot_4 : (Instr.voidBasket (hdr 1) 4).wellFormed = false := by decide
theorem test_measure_undefined : (Instr.addLine (hdr 14) 1 3 1 1 true []).wellFormed = false := by decide
theorem test_five_groups : (Instr.addLine (hdr 19) 1 0 1 1 true [1, 2, 3, 4, 5]).wellFormed = false := by decide
theorem test_group_count_disagrees : (Instr.addLine (hdr 14) 1 0 1 1 true [1]).wellFormed = false := by decide
theorem test_override_kind_undefined : (Instr.override (hdr 7) 4 0 0 1).wellFormed = false := by decide
theorem test_override_form_undefined : (Instr.override (hdr 7) 1 2 1 1).wellFormed = false := by decide
theorem test_basket_override_with_line : (Instr.override (hdr 7) 2 0 1 1).wellFormed = false := by decide
theorem test_rates_short : (Instr.loadBegin (hdr 95)
    ⟨1, 1, 1, 1, [1], List.replicate 32 0, 1, 1, 0, 0, 0, 0, 0, 0, 0, 0⟩).wellFormed = false := by decide
theorem test_quantities_short : (Instr.loadBegin (hdr 95)
    ⟨1, 1, 1, 1, [1, 1, 1, 1], [], 1, 1, 0, 0, 0, 0, 0, 0, 0, 0⟩).wellFormed = false := by decide

/-! ## The manual's worked figures -/

/-- 1061 at 1,500 bp is 159, leaving 902 (R68, 4.2). -/
theorem test_line_discount : halfUp (1061 * 1500) 10000 = 159 ∧ discounted 1061 (some (.discountRate 1500)) = 902 := by decide

/-- Timber, sand, and 1 g at 0.49 per kilogram (4.11, R67). -/
theorem test_extended : extendedAmount .millimetre 435 2440 = 1061 ∧ extendedAmount .gram 38 25000 = 950 ∧
    extendedAmount .gram 49 1 = 0 := by decide

/-- The AMOUNT_OFF of the reference basket (4.11, stage D). -/
theorem test_apportion_reference : apportion 500 [1061, 1500, 598, 950] = [129, 182, 73, 116] := by decide

/-- The multibuy set of 4.12. -/
theorem test_apportion_set : apportion 297 [549, 549, 399] = [109, 109, 79] := by decide

/-- The set formed in 4.12 leaves one unit over. -/
theorem test_sets : formSets 3 1200 0 4 0 [(0, 549), (0, 549), (1, 399), (1, 399)] = [[(0, 549), (0, 549), (1, 399)]] := by decide

/-- The basket of 4.13 after stages A to C: ten bags of cement, six of them held. -/
def cementScan : Scan :=
  stageAScan (scanOf { Basket.opened with
    lines := [{ screws 1 with qty := 10, price := 425, groups := [12] }] })

/-- The tier price and the provisional allotment of 4.13. -/
theorem test_tier_and_allotment :
    let b := quantityBreak cementScan 8 ⟨.quantityBreak .each 10 399, 12, 0xFF, [], 0, false⟩ .each 10 399
    let c := allotmentPrice b 20 cement 3 349 6
    b.adjustments.map (·.amount) = [260] ∧ c.adjustments.map (·.amount) = [260, 300] ∧ c.net = 3690 ∧
      c.provisional = true ∧ countGet 3 c.wants = 10 := by decide

/-- The redemption of the reference basket: 7 blocks (4.11, stage G). -/
theorem test_redemption :
    let sc := { scanOf Basket.opened with
      member := some ⟨40017552, 1, 730⟩, request := 1000, lines := [{ readLine (screws 1) with net := 3609 }] }
    selling.redemption sc = (700, 350) := by decide

/-- The gate and the reduction of 5.7: 15 % off a line of 10.61 is band 2. -/
theorem test_gate : bandGate tableHeader 159 1061 = 2 := by decide

/-- The CRC over the nine bytes 0x31 to 0x39 (R191). -/
theorem test_crc : crc [0x31, 0x32, 0x33, 0x34, 0x35, 0x36, 0x37, 0x38, 0x39] = 0x29B1 := by decide +kernel

/-- The PURGE of station 5 from station 4 on day 38 under tag 412, but for its CRC (R191). -/
theorem test_purge_frame : (LaneFrame.mk 4 38 412 (.purge 5)).body = [0x38, 0x04, 0x00, 0x26, 0x01, 0x9C, 0x05] := by decide

/-- The bytes in the frame of each kind (R191). -/
theorem test_frame_lengths :
    [Payload.allotRelease 0 0, .allotClaim 0 0, .serialRelease 0 0, .serialClaim 0 0, .pointsRelease 0 0, .pointsClaim 0 0,
      .holdings 0 0 0, .purge 0, .syncAsk, .presence 0 0].map (fun p => (LaneFrame.mk 1 1 1 p).body.length + 2) =
    [10, 10, 15, 15, 16, 16, 12, 9, 8, 10] := by decide

/-- A frame as sent reads back as it was built, intact. -/
theorem test_frame_reads_back :
    let bytes := (LaneFrame.mk 7 38 412 (.allotClaim 3 4)).bytes
    intact bytes = true ∧ heardSource bytes = 7 ∧ heardDay bytes = some 38 ∧ heardTag bytes = some 412 ∧
      heardPayload bytes = some (.allotClaim 3 4) := by decide +kernel

/-- A summary record is 35 bytes, an adjustment record 17, and the line record of R190 100. -/
theorem test_body_lengths :
    (summaryBytes Summary.empty).length = 35 ∧ (adjustmentBytes ⟨1, none, .coupon, 0, none, none⟩).length = 17 ∧
      (lineBytes (screws 1)).length = 1 + 4 + 1 + 3 + 4 + 5 + 1 + 15 + 4 + 2 + 41 + 12 := by decide

/-- The override reduction may be negative: it is sent in two's complement (R189). -/
theorem test_signed : signedBytes (-150) = [0xFF, 0xFF, 0xFF, 0x6A] := by decide

/-- PRESENT_COUPON's response to a notice-free, idle link carries its length, 0xE0, tag, status and detail first (R190). -/
theorem test_response_bytes : (Response.mk 3 .duplicate (.named .inBasket) .none).bytes = [0, 6, 0xE0, 3, 10, 10] := by decide

/-! ## One step of each family -/

/-- OPEN_BASKET takes slot 0 of a station with every slot FREE (R5). -/
theorem test_open : (after (.openBasket (hdr 0)) trading).bst.active = some 0 := by decide +kernel

/-- ADD_LINE prices three screws at 1947 and raises the revision to 1 (R20, 1.10). -/
theorem test_add_line :
    let t := after (.addLine (hdr 15) 9 0 3 649 true [5]) (serving Basket.opened)
    (t.bst.s0.map (fun b => (b.revision, b.lines.map (·.extended)))) = some (1, [1947]) := by decide +kernel

/-- A FINALISE with an open basket waits at F1 (R8). -/
theorem test_finalise :
    (after (.finalise (hdr 0 5)) selling).bst.s0.map (·.state) = some (.finalising .f1 5) := by decide +kernel

/-- OVERRIDE of 15 % on the screws is held for authority: 292 of 1947 is in band 2 (R90, R91, R93). -/
theorem test_override_held :
    (after (.override (hdr 7) 1 1 1 1500) selling).atc.held = some ⟨.line 1 (.discountRate 1500), 292, 2, 0⟩ := by
  decide +kernel

/-- AUTHORISE 205 reaches that gate: it is applied at depth 1, and the revision becomes 1 (R94, R95, 5.7). -/
theorem test_authorise :
    let t := after (.authorise (hdr 2) 205) holding
    t.atc.lal = some 2 ∧ t.atc.held = none ∧
      t.bst.s0.map (fun b => (b.state, b.revision)) = some (.trading, 1) := by decide +kernel

/-- The record of an ALLOT_CLAIM that both slots accept puts its units in the basket (R138, 8.12). -/
theorem test_claim_accepted :
    let t := after (.frameSent true true) (sending [claimRecord] selling)
    t.cle.queue = [] ∧ t.bst.s0.map (fun b => countGet 3 b.held) = some 4 := by decide +kernel

/-- A heard claim of 4 units by station 7, accepted by all, raises its column (R160, 7.9). -/
theorem test_claim_heard :
    let bytes := (LaneFrame.mk 7 38 412 (.allotClaim 3 4)).bytes
    (after (.frameSlotsHeard true true) (inHand (.judged bytes .silence false) trading)).column 3 7 = 4 := by decide +kernel

/-- The same claim above what is left is objected to (R124, R158). -/
theorem test_claim_conflicts :
    let bytes := (LaneFrame.mk 7 38 412 (.allotClaim 3 4)).bytes
    let full : State := { trading with cle := { trading.cle with sold := [(3, 147)] } }
    (after (.frameReceived bytes false) (inHand .receiving full)).lbp.frame = .judged bytes .conflict false := by
  decide +kernel

/-- A frame with one bit of its CRC wrong is declined (R124, 7.9). -/
theorem test_crc_declines :
    let f := LaneFrame.mk 7 38 412 .syncAsk
    let bytes := f.body ++ bytesOf 2 ((crc f.body).toNat + 1)
    (after (.frameReceived bytes false) (inHand .receiving trading)).lbp.frame = .judged bytes .decline false := by
  decide +kernel

/-- Both commands of a queue run in their order: a SYNC_ASK of DAY_OPEN, taken by FRAME_BEGIN in the next step's state. -/
theorem test_queue_order :
    (match step { ready with pending := [.dayOpen (hdr 2) 38, .poll] } with
      | .next t => (t.stc.day, t.pending)
      | _ => (.trading, [])) = (.joining, [.poll]) := by decide +kernel

/-- The stage-A amounts of a scan (R51). -/
theorem test_stage_a :
    (after .stageA (scanning .a)).eve.scan.map (fun sc => sc.lines.map (·.net)) = some [1947] := by decide +kernel

/-- A completion with nothing to promote publishes the gross as the net (R62, R82). -/
theorem test_stage_g :
    let sc := stageAScan (scanOf (basket .trading))
    let s := { selling with eve := { scan := some sc, wanted := false, position := .g, waitingTotal := none } }
    (after .stageG s).bst.s0.map (fun b => (b.summary.gross, b.summary.net, b.summary.payable, b.summary.liveLines)) =
      some (1947, 1947, 1947, 1) := by decide +kernel

/-! ## Witnesses: for every obligation with hypotheses, states and operands that meet them, clause by clause -/

/-- Nothing waits: in reset; with nothing due; with one event due; with two. -/
theorem witness_EmptyQueueTakesADueEventOrAMillisecond :
    ({ fresh with inReset := true } : State).pending = [] ∧ fresh.pending = [] ∧ dueEvents fresh = [] ∧
    dueEvents (elevated 0 trading) = [.elevationExpiry] ∧
    2 ≤ (dueEvents { elevated 0 trading with stc := { trading.stc with join := .running 0 } }).length := by decide +kernel

theorem witness_PowerOnGivesTheStartValues : State.reset.dueChoices = 0 ∧ State.reset.pending = [] := by decide +kernel

theorem witness_ResetHoldsThePartUntilPowerOn :
    ({ trading with inReset := true } : State).inReset = true ∧ Instr.poll ≠ .resetAsserted ∧
      ∀ straps, Instr.poll ≠ .powerOn straps := ⟨rfl, by decide, fun _ h => nomatch h⟩

/-- Reading the last response releases TATN. -/
theorem witness_AttentionIsPulledWhileARecordWaits :
    ∃ t, exec (.readResponse 6) (withOutstanding 1 trading) = .next t ∧
      t.attention ≠ (withOutstanding 1 trading).attention := ⟨_, rfl, by decide +kernel⟩

/-- Both queues full; each notice code. -/
theorem witness_StatusByteCarriesItsFiveFields :
    let s := withNotices 4 true (withOutstanding 8 trading)
    s.tlp.responses.length = 8 ∧ s.tlp.notices.length = 4 ∧ s.tlp.restarted = false ∧ s.tlp.noticesLost = true ∧
    (withNotices 3 true trading).tlp.notices.length = 3 ∧ (withNotices 4 false trading).tlp.noticesLost = false ∧
    State.reset.tlp.restarted = true := by decide +kernel

/-- Empty queues; a response of 6 bytes and a notice of 8, each cut short by one byte and read whole; a loss no transfer has shown. -/
theorem witness_TransfersShiftOutAndPop :
    trading.tlp.responses = [] ∧ trading.tlp.notices = [] ∧ (withOutstanding 1 trading).inReset = false ∧
    (withOutstanding 1 trading).tlp.responses = [⟨9, .ok, .none, .none⟩] ∧ 5 < (Response.mk 9 .ok .none .none).bytes.length ∧
    (Response.mk 9 .ok .none .none).bytes.length ≤ 6 ∧
    (withNotices 1 true trading).tlp.notices = [.elevationExpired 1 205] ∧
    7 < (noticeBytes (.elevationExpired 1 205) true).length ∧ (noticeBytes (.elevationExpired 1 205) false).length ≤ 8 ∧
    (lossUnshown trading).tlp.lossUnseen = true ∧ (lossUnshown trading).tlp.notices = List.replicate 4 (.elevationExpired 1 205) ∧
    trading.tlp.lossUnseen = false := by
  decide +kernel

/-- The requests that need the active basket, with none: a TOTAL, and a VOID_BASKET that names no slot. -/
theorem witness_EveryRequestIsCheckedInOrder_needs :
    needsBasket (.total (hdr 0)) = true ∧ Taken (hdr 0) (.total (hdr 0)) trading ∧
    needsBasket (.voidBasket (hdr 1) 0xFF) = true ∧ Taken (hdr 1) (.voidBasket (hdr 1) 0xFF) trading ∧ Serving trading ∧
    trading.bst.active = none := by
  simp only [Taken, Serving]; decide +kernel

/-- Too short for a header, and for its own length; a length of 3; a whole record with no place; a whole one of an undefined type. -/
theorem witness_DiscardedWritesAreUnanswered :
    ([0, 4, 3] : List Byte).length < 4 ∧ ([0, 5, 3, 0] : List Byte).length < numberOf [0, 5] ∧ numberOf [0, 3] < 4 ∧
    (¬ (([0, 4, 0x27, 1] : List Byte).length < 4 ∨ ([0, 4, 0x27, 1] : List Byte).length < numberOf [0, 4] ∨ numberOf [0, 4] < 4)) ∧
    8 ≤ (withOutstanding 8 trading).tlp.tags.length ∧ (withOutstanding 7 trading).tlp.tags.length < 8 ∧
    0x26 < (0x27 : Byte).toNat ∧ (0 : Byte).toNat = 0 := by decide +kernel

/-- A TOTAL with no place, too short, with a tag in use, malformed, before the day, with no operator. -/
theorem witness_EveryRequestIsCheckedInOrder :
    requestOf (.total (hdr 0)) = some (hdr 0, [.trading], true) ∧ trading.inReset = false ∧
    8 ≤ (withOutstanding 8 trading).tlp.tags.length ∧ (Hdr.mk 3 0).length.toNat < 4 ∧
    (hdr 0 9).tag ∈ (withOutstanding 7 trading).tlp.tags ∧ Offered (hdr 0) (withOutstanding 7 trading) ∧
    (Instr.total ⟨5, 0⟩).wellFormed = false ∧ ready.stc.day ∉ [DayState.trading] ∧
    ({ trading with atc := Atc.afterReset } : State).atc.operator = none := by
  simp only [Offered]; decide +kernel

/-- A VOID_LINE with no basket, and on a HELD, a FINALISING and a SETTLED one. -/
theorem witness_EveryRequestIsCheckedInOrder_changes :
    changesBasket (.voidLine (hdr 1) 1) = true ∧ Taken (hdr 1) (.voidLine (hdr 1) 1) trading ∧ Serving trading ∧
    trading.bst.active = none ∧ IsActive holding 0 (basket .held) ∧
    IsActive (serving (basket (.finalising .f1 5))) 0 (basket (.finalising .f1 5)) ∧
    IsActive (serving (basket .settled)) 0 (basket .settled) := by
  simp only [Taken, Serving, IsActive]; decide +kernel

theorem witness_ARefusedRequestChangesTheLinkAlone :
    ∃ t, requestOf (.total (hdr 0)) = some (hdr 0, [.trading], true) ∧ exec (.total (hdr 0)) trading = .next t ∧
      t.tlp.responses = trading.tlp.responses ++ [⟨0, .noBasket, .none, .none⟩] ∧ Status.noBasket ≠ .ok :=
  ⟨_, rfl, rfl, by decide +kernel, by decide⟩

/-- Station 32 and 33; timeouts of 0, 30, 600, 29 and 601 s. -/
theorem witness_ConfigureStoresItsRecord :
    Taken (hdr 9) (.configure (hdr 9) ⟨32, 0, 0, 0, 0, 0, 0, 600⟩) fresh ∧ fresh.stc.day = .unconfigured ∧
    Taken (hdr 9) (.configure (hdr 9) ⟨33, 0, 0, 0, 0, 0, 0, 0⟩) (station .configured) ∧
    (station .configured).stc.day = .configured ∧ (32 : Byte).toNat ≤ 32 ∧ 32 < (33 : Byte).toNat ∧
    (30 ≤ (30 : Half).toNat ∧ (600 : Half).toNat ≤ 600) ∧
    ¬ ((29 : Half) = 0 ∨ (30 ≤ (29 : Half).toNat ∧ (29 : Half).toNat ≤ 600)) ∧
    ¬ ((601 : Half) = 0 ∨ (30 ≤ (601 : Half).toNat ∧ (601 : Half).toNat ≤ 600)) := by
  simp only [Taken]; decide +kernel

/-- Before CONFIGURE, with a LOADED table, and in the middle of a load. -/
theorem witness_RestartLeavesItsOwnResponseAlone :
    trading.inReset = false ∧ (Instr.restart (hdr 1) true 3).wellFormed = true ∧ fresh.stc.config = none ∧
    ready.stc.config ≠ none ∧ ready.ptb.load = .loaded ∧
    ({ ready with ptb := { ready.ptb with load := .loading } } : State).ptb.load ≠ .loaded := by decide +kernel

/-- Allotments 31 and 32; lines 0, 1 and 2 of a basket of one line. -/
theorem witness_ReadingRequestsChangeTheLinkAlone :
    Taken (hdr 1) (.status (hdr 1) false) fresh ∧ Taken (hdr 1) (.status (hdr 1) true) fresh ∧
    Taken (hdr 0) (.readRoster (hdr 0)) ready ∧ ready.stc.day ≠ .unconfigured ∧
    Taken (hdr 1) (.readAllotment (hdr 1) 31) ready ∧ (31 : Byte).toNat ≤ 31 ∧ 31 < (32 : Byte).toNat ∧
    Taken (hdr 0) (.readAdjustments (hdr 0)) selling ∧ Serving selling ∧ IsActive selling 0 (basket .trading) ∧
    Taken (hdr 1) (.readLine (hdr 1) 1) selling ∧ trading.bst.active = none ∧ Serving trading ∧
    (basket .trading).lines.length < (2 : Byte).toNat ∧ (basket .trading).lines[(1 : Byte).toNat - 1]? = some (screws 1) := by
  simp only [Taken, Serving, IsActive]; decide +kernel

/-- A header in range, and one with table tag 0. -/
def headerFields (tag : Half) : HeaderFields :=
  ⟨tag, 5000, 100, 50, [1, 2, 3, 4], List.replicate 32 1, 1000, 2500, 3, 2, 1, 2, 1, 2, 2, 2000⟩

/-- The station in the middle of a load, with `n` staff records. -/
def loading (n : Nat) : State :=
  { station .configured with
    ptb := { load := .loading, header := some tableHeader, entries := [(20, cement)], allots := [],
             staff := List.replicate n ⟨9, 3, 0⟩ } }

/-- The fields of entry 20 as LOAD_PROMO carries them. -/
def cementFields : PromoFields := .entry ⟨12, 0xFF, [], 20, false⟩ (.allotmentPrice 3 349)

theorem witness_LoadingFillsTheTable :
    (loading 0).stc.day = .configured ∧ ready.stc.day = .ready ∧
    Taken (hdr 95) (.loadBegin (hdr 95) (headerFields 412)) ready ∧ headerFault (headerFields 412) = none ∧
    headerFault (headerFields 0) = some 1 ∧
    Taken (hdr 12) (.loadPromo (hdr 12) 20 cementFields) ready ∧ ready.ptb.load ≠ .loading ∧
    Taken (hdr 12) (.loadPromo (hdr 12) 20 cementFields) (loading 0) ∧ (loading 0).ptb.load = .loading ∧
    promoFault ⟨12, 0xFF, [], 20, false⟩ (.allotmentPrice 3 349) = none ∧
    (promoFault ⟨64, 0xFF, [], 100, false⟩ (.allotmentPrice 3 349)).isSome = true ∧
    Taken (hdr 2) (.loadPromo (hdr 2) 20 .empty) (loading 0) ∧
    Taken (hdr 7) (.loadStaff (hdr 7) 1 3 99999999) (loading 63) ∧ (loading 63).ptb.staff.length < 64 ∧
    64 ≤ (loading 64).ptb.staff.length ∧ (1 : Half) ≠ 0 ∧ (3 : Byte).toNat ≤ 3 ∧ (99999999 : Quad).toNat ≤ 99999999 ∧
    Taken (hdr 7) (.loadStaff (hdr 7) 1 3 0) ready ∧ ¬ (4 : Byte).toNat ≤ 3 ∧ ¬ (100000000 : Quad).toNat ≤ 99999999 := by
  simp only [Taken]; decide +kernel

/-- Entry 20 alone is sound; a second entry of its allotment is not. -/
theorem witness_LoadEndLoadsExactlySoundTables :
    Taken (hdr 0) (.loadEnd (hdr 0)) (loading 1) ∧ (loading 1).stc.day = .configured ∧
    (loading 1).ptb.header = some tableHeader ∧ SoundTable tableHeader (loading 1).ptb ∧
    ¬ SoundTable tableHeader { (loading 1).ptb with entries := [(20, cement), (21, cement)] } := by
  refine ⟨by simp only [Taken]; decide +kernel, rfl, rfl, ?_, ?_⟩
  · simp [SoundTable, loading, cement, tableHeader]
  · rintro ⟨-, h, -⟩
    exact List.rel_of_pairwise_cons h (List.mem_singleton.mpr rfl) 3 349 349 rfl rfl

theorem witness_TheDayOpensAndCloses :
    Taken (hdr 2) (.dayOpen (hdr 2) 38) ready ∧ ready.stc.day = .ready ∧ (38 : Half) ≠ 0 ∧
    Taken (hdr 2) (.dayOpen (hdr 2) 0) ready ∧
    Taken (hdr 0) (.dayClose (hdr 0)) (sending [askRecord] trading) ∧ trading.stc.day = .trading ∧
    trading.bst = ⟨none, none, none, none⟩ ∧ selling.bst ≠ ⟨none, none, none, none⟩ ∧
    Taken (hdr 0) (.dayClose (hdr 0)) selling := by
  simp only [Taken]; decide +kernel

theorem witness_WindowAndBandTriggerAScan :
    ready.stc.day = .ready ∧ selling.stc.day = .trading ∧ Taken (hdr 2) (.setWindow (hdr 2) 255 0) selling ∧
    IsActive selling 0 (basket .trading) ∧ (basket .trading).state ≠ .parked ∧ (basket .trading).state ≠ .settled ∧
    ready.bst.active = none ∧ Taken (hdr 2) (.setWindow (hdr 2) 0 255) ready ∧
    IsActive (serving (basket .settled)) 0 (basket .settled) ∧ (basket .settled).state = .settled ∧
    Taken (hdr 1) (.setTimeBand (hdr 1) 7) selling ∧ (7 : Byte).toNat ≤ 7 ∧
    Taken (hdr 1) (.setTimeBand (hdr 1) 8) selling ∧ 7 < (8 : Byte).toNat := by
  simp only [Taken, IsActive]; decide +kernel

/-- The station with nobody signed on. -/
def unattended : State := { ready with atc := .afterReset }

theorem witness_SignOnGivesTheStationAnOperator :
    Offered (hdr 2) unattended ∧ Taken (hdr 2) (.signOn (hdr 2) 205) unattended ∧
    unattended.stc.day ∈ [DayState.ready, .joining, .trading] ∧ unattended.atc.operator = none ∧
    unattended.findStaff 9 = none ∧ unattended.findStaff 205 = some ⟨205, 2, 5000⟩ ∧ unattended.atc.law = true ∧
    Taken (hdr 2) (.signOn (hdr 2) 205) ready ∧ ready.atc.operator ≠ none := by
  simp only [Offered, Taken]; decide +kernel

/-- With a frame and a parked basket, and refused with a basket in slot 0; the queue of notices full. -/
theorem witness_SignOffPopsEveryFrame :
    let s : State := { elevated 5 trading with bst := ⟨none, some { boundBasket with state := .parked }, none, none⟩ }
    Taken (hdr 0) (.signOff (hdr 0)) s ∧ s.atc.operator = some ⟨318, 3, 500⟩ ∧ s.bst.active = none ∧
    s.tlp.notices.length ≤ 4 ∧ (withNotices 4 false s).tlp.notices.length ≤ 4 ∧
    Taken (hdr 0) (.signOff (hdr 0)) selling ∧ selling.atc.operator = some ⟨318, 3, 500⟩ ∧ selling.bst.active ≠ none := by
  simp only [Taken]; decide +kernel

/-- An unknown number, a full stack, a level that is no gain, and a push. -/
theorem witness_AuthorisePushesAFrame :
    Taken (hdr 2) (.authorise (hdr 2) 205) trading ∧ trading.atc.operator ≠ none ∧ trading.atc.lal = some 3 ∧
    trading.findStaff 9 = none ∧ trading.findStaff 318 = some ⟨318, 3, 500⟩ ∧ 3 ≤ (StaffRecord.mk 318 3 500).level ∧
    trading.findStaff 205 = some ⟨205, 2, 5000⟩ ∧ (StaffRecord.mk 205 2 5000).level < 3 ∧
    trading.atc.stack.length < 3 ∧ trading.atc.held = none ∧
    3 ≤ ({ trading.atc with stack := [frame205, frame205, frame205] } : Atc).stack.length := by
  simp only [Taken]; decide +kernel

theorem witness_AuthoriseTestsTheHeldOverride :
    Taken (hdr 2) (.authorise (hdr 2) 205) holding ∧ holding.atc.operator ≠ none ∧ holding.atc.lal = some 3 ∧
    holding.findStaff 205 = some ⟨205, 2, 5000⟩ ∧ holding.atc.stack.length < 3 ∧ 2 < 3 ∧
    holding.atc.held = some ⟨.line 1 (.discountRate 1500), 292, 2, 0⟩ ∧ IsActive holding 0 (basket .held) ∧
    (basket .held).state = .held ∧ (2 ≤ 2 ∧ 292 ≤ 5000) ∧ ¬ (2 ≤ 1 ∧ 292 ≤ 5000) := by
  simp only [Taken, IsActive]; decide +kernel

/-- No frame; a frame whose pop leaves the active basket as it is, and one that withdraws its discount. -/
theorem witness_APopRestoresTheSavedLevel :
    Taken (hdr 0) (.dropAuthority (hdr 0)) trading ∧ trading.atc.operator ≠ none ∧ trading.atc.stack = [] ∧
    (elevated 5 selling).atc.stack = [frame205] ∧ Taken (hdr 0) (.dropAuthority (hdr 0)) (elevated 5 selling) ∧
    (elevated 5 selling).atc.operator ≠ none ∧ (elevated 5 selling).inReset = false ∧
    withdrawnAt (fun d => d == 1) (basket .trading) = basket .trading ∧
    IsActive (elevated 5 (serving boundBasket)) 0 boundBasket ∧ withdrawnAt (fun d => d == 1) boundBasket ≠ boundBasket ∧
    (elevated 0 selling).atc.timer = some 0 ∧ (withNotices 4 false (elevated 0 selling)).tlp.notices.length ≤ 4 := by
  simp only [Taken, IsActive]; decide +kernel

/-- Every slot taken and none active; slot 0 free; slots 2 and 3 free. -/
theorem witness_OpenBasketTakesTheLowestFreeSlot :
    let p := some (basket .parked)
    Taken (hdr 0) (.openBasket (hdr 0)) trading ∧ Serving trading ∧ selling.bst.active ≠ none ∧
    ({ trading with bst := ⟨p, p, p, p⟩ } : State).bst.active = none ∧ (∀ i, (Slots.mk p p p p).get i ≠ none) ∧
    trading.bst.active = none ∧ trading.bst.get 0 = none ∧
    (Slots.mk p p none none).get 2 = none ∧ (∀ j < (2 : Fin 4), (Slots.mk p p none none).get j ≠ none) ∧
    Taken (hdr 0 1) (.total (hdr 0 1)) (serving Basket.opened) ∧ Serving (serving Basket.opened) ∧
    IsActive (serving Basket.opened) 0 Basket.opened ∧ (serving Basket.opened).eve.scan = none ∧
    (serving Basket.opened).eve.waitingTotal = none := by
  simp only [Taken, Serving, IsActive]; decide +kernel

theorem witness_ParkSetsTheBasketAside :
    Taken (hdr 0) (.park (hdr 0)) trading ∧ Serving trading ∧ trading.bst.active = none ∧
    Taken (hdr 0) (.park (hdr 0)) holding ∧ IsActive holding 0 (basket .held) ∧ (basket .held).state ≠ .trading ∧
    Taken (hdr 0) (.park (hdr 0)) (scanning .e) ∧ IsActive (scanning .e) 0 (basket .trading) := by
  simp only [Taken, Serving, IsActive]; decide +kernel

theorem witness_RecallAlwaysLeadsToAScan :
    let s : State := { trading with bst := ⟨none, none, none, some (basket .parked)⟩ }
    Taken (hdr 1) (.recall (hdr 1) 3) s ∧ Serving s ∧ s.bst.active = none ∧ (3 : Fin 4).val = (3 : Byte).toNat ∧
    s.bst.get 3 = some (basket .parked) ∧ s.bst.get 0 = none ∧ (0 : Fin 4).val = (0 : Byte).toNat ∧
    Taken (hdr 1) (.recall (hdr 1) 3) selling ∧ selling.bst.active ≠ none := by
  simp only [Taken, Serving]; decide +kernel

/-- A settled basket of one redeemed serial, of member 1 with 100 points granted. -/
def settledBasket : Basket :=
  { basket .settled with
    coupons := [⟨0, 7, 880215, .redeemed, 300⟩], nextCoupon := 1, member := some ⟨1, 1, 730⟩, points := .granted 100,
    held := [(3, 4)] }

theorem witness_CloseAndReopenLeaveTheSettledState :
    Serving (serving settledBasket) ∧ IsActive (serving settledBasket) 0 settledBasket ∧ settledBasket.state = .settled ∧
    Taken (hdr 0) (.close (hdr 0)) (serving settledBasket) ∧ countGet 3 trading.cle.sold + countGet 3 settledBasket.held ≤ 65535 ∧
    Taken (hdr 0) (.reopen (hdr 0)) (withQueue (List.replicate 14 askRecord) (serving settledBasket)) ∧
    16 < (List.replicate 15 askRecord).length + 2 ∧ (List.replicate 14 askRecord).length + 2 ≤ 16 ∧
    Taken (hdr 0) (.close (hdr 0)) selling ∧ Taken (hdr 0) (.reopen (hdr 0)) selling ∧ IsActive selling 0 (basket .trading) ∧
    Serving selling ∧ (basket .trading).state ≠ .settled := by
  simp only [Taken, Serving, IsActive]; decide +kernel

theorem witness_VoidBasketFreesTheSlot :
    let s := sending [claimRecord] (serving settledBasket)
    Taken (hdr 1) (.voidBasket (hdr 1) 0xFF) trading ∧ trading.bst.active = none ∧ Serving trading ∧
    Taken (hdr 1) (.voidBasket (hdr 1) 0) s ∧ Serving s ∧ (0 : Fin 4).val = (0 : Byte).toNat ∧
    Taken (hdr 1) (.voidBasket (hdr 1) 0xFF) s ∧ s.bst.active = some 0 ∧ s.bst.get 1 = none ∧
    s.bst.get 0 = some settledBasket ∧ s.cle.inFlight = .head ∧ s.cle.queue = [claimRecord] ∧
    selling.cle.inFlight ≠ .head ∧ 0 < countGet 3 settledBasket.held ∧ 16 < (List.replicate 15 askRecord).length + 2 ∧
    s.cle.queue.length + 2 ≤ 16 ∧
    (serving (basket (.finalising .f1 5))).bst.get 0 = some (basket (.finalising .f1 5)) ∧
    ({ trading with bst := ⟨none, some (basket .parked), none, none⟩ } : State).bst.active ≠ some 1 := by
  simp only [Taken, Serving]; decide +kernel

/-- The selling station with `n` lines in its basket. -/
def longBasket (n : Nat) : Basket := { basket .trading with lines := List.replicate n (screws 1) }

theorem witness_AddLineAppendsALiveLine :
    Taken (hdr 15) (.addLine (hdr 15) 9 0 9999 0 true [63]) (serving (longBasket 199)) ∧ Serving (serving (longBasket 199)) ∧
    IsActive (serving (longBasket 199)) 0 (longBasket 199) ∧ (longBasket 199).state = .trading ∧
    (longBasket 199).lines.length < 200 ∧ 200 ≤ (longBasket 200).lines.length ∧
    ((9 : Quad) ≠ 0 ∧ (∀ g ∈ [(63 : Byte)], 1 ≤ g.toNat ∧ g.toNat ≤ 63) ∧ [(63 : Byte)].Nodup ∧
      1 ≤ (9999 : Triple).toNat ∧ (9999 : Triple).toNat ≤ 9999 ∧ extendedAmount .each 0 9999 ≤ 99999999 ∧
      basketGross (longBasket 199).lines + extendedAmount .each 0 9999 ≤ 99999999) ∧
    ¬ ((64 : Byte).toNat ≤ 63) ∧ ¬ ((10000 : Triple).toNat ≤ 9999) := by
  simp only [Taken, Serving, IsActive]; decide +kernel

/-- A line no scan has priced, and one that a completed scan has. -/
theorem witness_ChangeQtyAndVoidLineActOnALiveLine :
    Serving selling ∧ IsActive selling 0 (basket .trading) ∧ Taken (hdr 4) (.changeQty (hdr 4) 1 9999) selling ∧
    (basket .trading).lines[(1 : Byte).toNat - 1]? = some (screws 1) ∧ (screws 1).live = true ∧
    (basket .trading).lines.length < (2 : Byte).toNat ∧ 999999 < (1000000 : Triple).toNat ∧
    extendedAmount .each 649 9999 ≤ 99999999 ∧ basketGross (basket .trading).lines - (screws 1).catalogue + extendedAmount .each 649 9999 ≤ 99999999 ∧
    ¬ ((screws 1).measure = .each → (10000 : Triple).toNat ≤ 9999) ∧ Taken (hdr 1) (.voidLine (hdr 1) 1) selling ∧
    ¬ (1 : Byte).toNat ≤ (basket .trading).pricedLines ∧
    (1 : Byte).toNat ≤ ({ basket .trading with pricedLines := 1 } : Basket).pricedLines := by
  simp only [Taken, Serving, IsActive]; decide +kernel

/-- A basket of `n` plain coupons of class 7. -/
def couponBasket (n : Nat) (st : CouponState) : Basket :=
  { basket .trading with coupons := (List.range n).map (fun i => ⟨i, 7, 0, st, 0⟩), nextCoupon := n }

theorem witness_CouponsArePresentedAndWithdrawn :
    let s := serving (couponBasket 2 .presented)
    Serving s ∧ IsActive s 0 (couponBasket 2 .presented) ∧ (couponBasket 2 .presented).state = .trading ∧
    Taken (hdr 7) (.presentCoupon (hdr 7) 7 880215) s ∧ (7 : Byte) ≠ 0 ∧ (880215 : SerialWord).toNat ≠ 0 ∧
    ((7 : Byte).toNat, 880215) ∈ [(7, 880215)] ∧ (couponBasket 7 .presented).coupons.length < 8 ∧
    8 ≤ (couponBasket 8 .presented).coupons.length ∧
    (∃ k ∈ settledBasket.coupons, k.cls = 7 ∧ k.serial = 880215) ∧
    Taken (hdr 7) (.withdrawCoupon (hdr 7) 7 0) s ∧ (couponBasket 2 .presented).listsLaw = true ∧
    (couponBasket 2 .presented).coupons = [⟨0, 7, 0, .presented, 0⟩] ++ ⟨1, 7, 0, .presented, 0⟩ :: [] ∧
    (couponBasket 1 .refused).coupons = [] ++ ⟨0, 7, 0, .refused, 0⟩ :: [] ∧ (couponBasket 0 .presented).coupons = [] := by
  simp only [Taken, Serving, IsActive]; decide +kernel

/-- An open basket of member 1. -/
def memberBasket : Basket := { basket .trading with member := some ⟨1, 3, 9999999⟩ }

theorem witness_MemberRequestsSetTheContext :
    Serving selling ∧ IsActive selling 0 (basket .trading) ∧ (basket .trading).member = none ∧
    Taken (hdr 9) (.setMember (hdr 9) 999999999999 3 9999999) selling ∧
    (1 ≤ (999999999999 : MemberWord).toNat ∧ (999999999999 : MemberWord).toNat ≤ 999999999999 ∧ (3 : Byte).toNat ≤ 3 ∧
      (9999999 : Triple).toNat ≤ 9999999) ∧ ¬ ((4 : Byte).toNat ≤ 3) ∧
    Taken (hdr 0) (.clearMember (hdr 0)) selling ∧ Taken (hdr 3) (.redeemPoints (hdr 3) 9999999) selling ∧
    IsActive (serving memberBasket) 0 memberBasket ∧ Serving (serving memberBasket) ∧ memberBasket.member ≠ none ∧
    9999999 < (10000000 : Triple).toNat := by
  simp only [Taken, Serving, IsActive]; decide +kernel

/-- 15 % off the screws: no line 2 to take it; held at level 3, whose limit is 500, and applied under supervisor 205. A discount of 0 is
out of range. -/
theorem witness_OverrideIsAppliedOrHeld :
    let c := Instr.override (hdr 7) 1 1 1 1500
    Taken (hdr 7) c selling ∧ Serving selling ∧ IsActive selling 0 (basket .trading) ∧ (basket .trading).state = .trading ∧
    selling.atc.lal = some 3 ∧ selling.atc.acting = some ⟨318, 3, 500⟩ ∧
    (basket .trading).lines.length < (2 : Byte).toNat ∧ (basket .trading).lines[(1 : Byte).toNat - 1]? = some (screws 1) ∧
    (screws 1).live = true ∧ (1 ≤ (1500 : Quad).toNat ∧ (1500 : Quad).toNat ≤ 10000) ∧ ¬ 1 ≤ (0 : Quad).toNat ∧
    (1947 * 1500 + 5000) / 10000 = 292 ∧ (1000 * 1947 < 292 * 10000 ∧ 292 * 10000 ≤ 2500 * 1947) ∧
    ¬ (3 ≤ tableHeader.g2 ∧ 292 ≤ 500) ∧
    Taken (hdr 7) c (elevated 5 selling) ∧ IsActive (elevated 5 selling) 0 (basket .trading) ∧
    (elevated 5 selling).atc.lal = some 2 ∧ (elevated 5 selling).atc.acting = some ⟨205, 2, 5000⟩ ∧
    (2 ≤ tableHeader.g2 ∧ 292 ≤ 5000) := by
  simp only [Taken, Serving, IsActive]; decide +kernel

/-- Ten thousand screws less one at the highest price are too much for a line; a price of 0, a basket discount above the threshold, and an
award. -/
theorem witness_OverrideIsAppliedOrHeld_kinds :
    let b : Basket := { basket .trading with lines := [{ screws 1 with qty := 9999 }] }
    let s := elevated 5 (serving b)
    Taken (hdr 7) (.override (hdr 7) 0 0 1 9999999) s ∧ Serving s ∧ IsActive s 0 b ∧
    (9999999 : Quad).toNat ≤ 9999999 ∧ 99999999 < extendedAmount .each 9999999 9999 ∧
    Taken (hdr 7) (.override (hdr 7) 0 0 1 0) s ∧ extendedAmount .each 0 9999 ≤ 99999999 ∧
    Taken (hdr 7) (.override (hdr 7) 2 0 0 2001) s ∧ 2 ≤ tableHeader.gBasket ∧ tableHeader.threshold < (2001 : Quad).toNat ∧
    Taken (hdr 7) (.override (hdr 7) 3 0 0 99999) s ∧ 2 ≤ tableHeader.gPoints ∧ (99999 : Quad).toNat ≤ 99999 ∧
    ¬ (100000 : Quad).toNat ≤ 99999 := by
  simp only [Taken, Serving, IsActive]; decide +kernel

theorem witness_CancelOverrideDiscardsTheHeldOverride :
    Offered (hdr 0) holding ∧ Taken (hdr 0) (.cancelOverride (hdr 0)) holding ∧ Serving holding ∧
    IsActive holding 0 (basket .held) ∧ (basket .held).state = .held ∧
    holding.atc.held = some ⟨.line 1 (.discountRate 1500), 292, 2, 0⟩ ∧
    Taken (hdr 0) (.cancelOverride (hdr 0)) trading ∧ Serving trading ∧ trading.bst.active = none ∧
    Taken (hdr 0) (.cancelOverride (hdr 0)) selling ∧ IsActive selling 0 (basket .trading) ∧ (basket .trading).state ≠ .held := by
  simp only [Offered, Taken, Serving, IsActive]; decide +kernel

theorem witness_TotalIsAnsweredOrWaits :
    Taken (hdr 0) (.total (hdr 0)) trading ∧ Serving trading ∧ trading.bst.active = none ∧
    Taken (hdr 0) (.total (hdr 0)) selling ∧ Serving selling ∧ IsActive selling 0 (basket .trading) ∧
    selling.eve.waitingTotal = none ∧ selling.eve.scan = none ∧
    (basket .trading).summary.revision = (basket .trading).revision ∧ (scanning .a).eve.scan ≠ none ∧
    ({ scanning .a with eve := { (scanning .a).eve with waitingTotal := some 1 } } : State).eve.waitingTotal ≠ none := by
  simp only [Taken, Serving, IsActive]; decide +kernel

/-- A finalising basket with one coupon in the given state. -/
def finalBasket (phase : FinalPhase) (st : CouponState) : Basket :=
  { basket (.finalising phase 5) with coupons := [⟨0, 7, 880215, st, 300⟩], nextCoupon := 1 }

/-- A finalising basket of member 1 whose summary redeems 5,000 points. -/
def pointsBasket : Basket :=
  { basket (.finalising .f1 5) with
    member := some ⟨1, 1, 5000⟩, request := 5000,
    summary := { (basket .trading).summary with redemptionPoints := 5000, redemptionValue := 2500 } }

theorem witness_FinaliseStartsAndF3Decides :
    Taken (hdr 0) (.finalise (hdr 0)) trading ∧ Serving trading ∧ trading.bst.active = none ∧
    IsActive selling 0 (basket .trading) ∧ Taken (hdr 0) (.finalise (hdr 0)) selling ∧ Serving selling ∧
    (basket .trading).state = .trading ∧ Taken (hdr 0) (.finalise (hdr 0)) holding ∧ (basket .held).state ≠ .trading ∧
    IsActive (serving (finalBasket .f3 .applying)) 0 (finalBasket .f3 .applying) ∧
    (finalBasket .f3 .applying).state = .finalising .f3 5 ∧
    (∀ c ∈ (finalBasket .f3 .applying).coupons, c.state ≠ .redeeming) ∧
    (serving (finalBasket .f3 .applying)).hasPointsClaim 0 = false ∧ (serving (finalBasket .f3 .applying)).eve.scan = none ∧
    (∃ c ∈ (finalBasket .f3 .applying).coupons, c.state = .applying) ∧
    (¬ ∃ c ∈ (finalBasket .f3 .redeemed).coupons, c.state = .applying) ∧
    (¬ ∀ c ∈ (finalBasket .f3 .redeeming).coupons, c.state ≠ .redeeming) := by
  simp only [Taken, Serving, IsActive]; decide +kernel

/-- F2 from F1, after F3, and from coupon 0 where it waited; with room for the one claim, and with none. -/
theorem witness_F2EntersTheClaimsInOrder :
    let b := finalBasket .f1 .applying
    (serving b).inReset = false ∧ IsActive (serving b) 0 b ∧ b.state = .finalising .f1 5 ∧
    (serving b).hasAllotClaim 0 = false ∧ (serving b).eve.scan = none ∧ b.summary.revision = b.revision ∧
    (finalBasket .f2Due .applying).state = .finalising .f2Due 5 ∧
    (serving (finalBasket .f2Due .applying)).hasPointsClaim 0 = false ∧
    (∀ c ∈ (finalBasket .f2Due .applying).coupons, c.state ≠ .redeeming) ∧
    (finalBasket (.f2 0 false) .applying).state = .finalising (.f2 0 false) 5 ∧
    (serving b).cannotSend = false ∧ (withQueue (List.replicate 15 askRecord) (serving b)).cle.queue.length + 1 ≤ 16 ∧
    (∃ c ∈ b.coupons, c.state = .applying) ∧ (∀ c ∈ (finalBasket .f1 .notApplicable).coupons, c.state ≠ .applying) ∧
    (withQueue (List.replicate 16 askRecord) (serving b)).cle.queue.length = 16 ∧
    (∃ c rest, b.coupons.drop 0 = [] ++ c :: rest ∧ c.state = .applying ∧ c.serial ≠ 0) :=
  ⟨rfl, ⟨rfl, rfl⟩, rfl, rfl, rfl, rfl, rfl, rfl, by decide +kernel, rfl, rfl, by decide, by decide +kernel, by decide +kernel,
    by decide, _, _, rfl, rfl, by decide⟩

/-- Where claims cannot be sent: each refused under DENY; granted under ALLOW, unless the serial set holds the pair. -/
theorem witness_F2EntersTheClaimsInOrder_cannotSend :
    let b := finalBasket .f1 .applying
    let deny := faulted .deny (serving b)
    let allow := faulted .allow (serving b)
    let known : State := { allow with pst := { allow.pst with serials := [(7, 880215)] } }
    deny.cannotSend = true ∧ IsActive deny 0 b ∧ deny.hasAllotClaim 0 = false ∧
    ((b.coupons.filter (fun c => c.serial != 0)).map (fun c => (c.cls, c.serial))).Nodup ∧
    allows deny (.serialClaim (some 0) 0 0) = false ∧ allows deny (.pointsClaim (some 0) 0 0) = false ∧
    allow.cannotSend = true ∧ b.coupons.filter (fun c => c.state == .applying && c.serial != 0) = [⟨0, 7, 880215, .applying, 300⟩] ∧
    b.member = none ∧ allows allow (.serialClaim (some 0) 7 880215) = true ∧ ¬ Objected allow (.serialClaim 7 880215) ∧
    Objected known (.serialClaim 7 880215) ∧ allows allow (.pointsClaim (some 0) 1 5000) = true ∧
    ¬ Objected allow (.pointsClaim 1 5000) ∧ pointsBasket.summary.redemptionPoints = 5000 ∧ pointsBasket.member = some ⟨1, 1, 5000⟩ ∧
    pointsBasket.points = .none ∧ IsActive (faulted .allow (serving pointsBasket)) 0 pointsBasket := by
  simp only [IsActive, Objected]; decide +kernel

/-- Granted 100 points of which none are redeemed. -/
def surplusBasket : Basket := { basket (.finalising .f4 5) with member := some ⟨1, 1, 730⟩, points := .granted 100 }

theorem witness_F4SettlesOnTheCurrentSummary :
    (serving surplusBasket).inReset = false ∧ IsActive (serving surplusBasket) 0 surplusBasket ∧
    surplusBasket.state = .finalising .f4 5 ∧ (serving surplusBasket).eve.scan = none ∧
    surplusBasket.summary.revision = surplusBasket.revision ∧ surplusBasket.summary.redemptionPoints < 100 ∧
    (withQueue (List.replicate 15 askRecord) (serving surplusBasket)).cle.queue.length + 1 ≤ 16 ∧
    16 ≤ (withQueue (List.replicate 16 askRecord) (serving surplusBasket)).cle.queue.length := by
  simp only [IsActive]; decide +kernel

/-- A manager of level 1 signed on. -/
def managed : State := { trading with atc := { trading.atc with operator := some ⟨204, 1, 5000⟩, lal := some 1 } }

theorem witness_PurgeStationEntersARecord :
    Offered (hdr 1) managed ∧ Taken (hdr 1) (.purgeStation (hdr 1) 32) managed ∧ managed.stc.day = .trading ∧
    managed.atc.operator ≠ none ∧ managed.atc.lal = some 1 ∧ trading.atc.lal = some 3 ∧
    (1 ≤ (32 : Byte).toNat ∧ (32 : Byte).toNat ≤ 32) ∧ ¬ (1 ≤ (33 : Byte).toNat ∧ (33 : Byte).toNat ≤ 32) ∧
    (onBus (.faulted 0) managed).lbp.bus = some (.faulted 0) ∧ managed.lbp.bus = some .idle ∧ managed.pst.conflict = false ∧
    managed.cle.queue.length < 16 ∧ 16 ≤ (withQueue (List.replicate 16 askRecord) managed).cle.queue.length := by
  simp only [Offered, Taken]; decide +kernel

/-- A basket discount of 2.50 that finds room, with a net to take it; one with none; and no discount. -/
theorem witness_StagesAEAndFWorkOnTheLines :
    let sc := stageAScan (scanOf { basket .trading with discount := some ⟨250, 250, ⟨205, 2, 1, false⟩⟩ })
    let full : Scan := { sc with adjustments := List.replicate 64 ⟨1, none, .coupon, 0, none, none⟩ }
    (scanning .a).inReset = false ∧ (scanning .a).eve.scan = some (scanOf (basket .trading)) ∧
    (scanning .a).eve.position = .a ∧ (scanning .e).eve.position = .e ∧ (scanning .f).eve.position = .f ∧
    (scanOf (basket .trading)).discount = none ∧ (scanOf (basket .trading)).member = none ∧
    sc.discount = some 250 ∧ 0 < (sc.lines.map (fun l => if l.live then l.net else 0)).sum ∧
    RoomFor sc (apportion 250 [1947]) ∧ ¬ RoomFor full (apportion 250 [1947]) ∧
    (scanOf (basket .trading)).adjustments = [] ∧ (scanOf (basket .trading)).stageE = 0 ∧
    (∀ l ∈ (scanOf (basket .trading)).lines, l.tier = none ∧ l.consumedUnits = 0 ∧ l.consumedFlag = false) ∧
    rateBounded cement ∧ (scanOf memberBasket).member = some ⟨1, 3, 9999999⟩ := by
  simp only [RoomFor, rateBounded, cement, true_and]; decide +kernel

/-- The law of the priced basket holds of a scan that stage A has priced, at every later position. -/
theorem witness_StagesAEAndFWorkOnTheLines_law :
    let sc := stageAScan (scanOf (basket .trading))
    PricedLaw sc (.visit .b 0) ∧ PricedLaw sc (.visit .c 255) ∧ PricedLaw sc .e ∧ PricedLaw sc .f ∧ PricedLaw sc .g := by
  have law (p : Position) : PricedLaw (stageAScan (scanOf (basket .trading))) p := by
    unfold PricedLaw
    exact ⟨by decide +kernel, by decide +kernel, fun _ => rfl, fun _ => by decide +kernel, fun _ => by decide +kernel⟩
  exact ⟨law _, law _, law _, law _, law _⟩

/-- Entry 19 is empty; entry 20 is of stage C, for group 12; the other kinds, each in a window of its own and with no terms, apply at
their stage. -/
theorem witness_AVisitActsByTheEntryOrPassesOver :
    (scanning (.visit .c 20)).inReset = false ∧ (scanning (.visit .c 20)).eve.scan = some (scanOf (basket .trading)) ∧
    (scanning (.visit .c 20)).eve.position = .visit .c 20 ∧ tableGet 19 (scanning (.visit .c 19)).ptb.entries = none ∧
    tableGet 20 (scanning (.visit .c 20)).ptb.entries = some cement ∧
    (cement.kind.stage = .c ∧ cement.mask.getLsbD (scanOf (basket .trading)).band = true ∧
      ∀ t ∈ cement.terms, termHolds (scanOf (basket .trading)) cement.group 0 t = true) ∧ cement.kind.stage ≠ .b ∧
    [PromoKind.quantityBreak .each 3 599, .multibuy 3 1500, .percentOff 500 0, .amountOff 0 100, .coupon 7 (.amount 300) 0,
      .pointsMultiplier 2].map (·.stage) = [.b, .c, .c, .d, .d, .f] := by
  decide +kernel

theorem witness_GuardTermsCompareAsTheirRelationSays :
    guardFigure (scanOf (basket .trading)) 5 0 .groupUnits = some 3 ∧ (scanOf (basket .trading)).member = none ∧
    (scanOf memberBasket).member = some ⟨1, 3, 9999999⟩ ∧ cement.terms = [] ∧ cement.kind.stage = .c ∧
    cement.mask.getLsbD (scanOf (basket .trading)).band = true ∧ trading.stc.config = some configuration := by decide +kernel

theorem witness_ApportionmentSharesTheWholeAmount :
    [0, 0].sum = 0 ∧ 0 < [1061, 1500, 598, 950].sum ∧ 4109 ≤ [1061, 1500, 598, 950].sum := by decide

/-- No request yet, and a grant of 100 of the 100 points redeemed today. -/
theorem witness_RedemptionIsWholeBlocksWithinEveryLimit :
    trading.ptb.header = some tableHeader ∧ 0 < tableHeader.blockSize ∧ 0 < tableHeader.blockValue ∧
    (scanOf (basket .trading)).member = none ∧ (scanOf memberBasket).member = some ⟨1, 3, 9999999⟩ ∧
    (scanOf memberBasket).outcome = .none ∧ (scanOf surplusBasket).member = some ⟨1, 1, 730⟩ ∧
    (scanOf surplusBasket).outcome = .granted 100 ∧
    (scanOf { memberBasket with points := .refused }).outcome = .refused := by decide +kernel

/-- A scan of a basket that has changed since, with another scan wanted; one that none follows, and whose revision a waiting TOTAL takes. -/
theorem witness_CompletionPublishesTheScan :
    let s : State := { scanning .g with eve := { (scanning .g).eve with wanted := true } }
    let waits : State := { scanning .g with eve := { (scanning .g).eve with waitingTotal := some 5 } }
    s.inReset = false ∧ s.eve.scan = some (scanOf (basket .trading)) ∧ s.eve.position = .g ∧
    IsActive s (scanOf (basket .trading)).slot (basket .trading) ∧ (basket .trading).state.scanned = true ∧ s.eve.wanted = true ∧
    waits.eve.wanted = false ∧ waits.eve.waitingTotal = some 5 ∧ (scanOf (basket .trading)).revision = (basket .trading).revision := by
  simp only [IsActive]; decide +kernel

/-- Six units of allotment 3 wanted and none held, on the lane and where no claim can be sent; six held and none wanted; room for the one
record, and none. -/
theorem witness_CompletionPublishesTheScan_reconciles :
    let b := basket .trading
    let more : Basket := { b with held := [(3, 6)] }
    let wanting : Scan := { scanOf b with wants := [(3, 6)] }
    let s : State := { scanning .g with eve := { (scanning .g).eve with scan := some wanting } }
    s.cannotSend = false ∧ countGet 3 b.held < countGet 3 wanting.wants ∧
    (b.state = .trading ∨ b.state = .held) ∧ (∀ x < 32, x ≠ 3 → countGet x wanting.wants = 0) ∧
    (faulted .allow s).cannotSend = true ∧ allows (faulted .allow s) (.allotClaim none 3 6) = true ∧
    quantityOf (faulted .allow s) 3 = 150 ∧ ownUnits (faulted .allow s) 3 = 0 ∧ (faulted .allow s).pst.holdings = [] ∧
    allows (faulted .deny s) (.allotClaim none 3 6) = false ∧
    countGet 3 (scanOf more).wants < countGet 3 more.held ∧ s.cle.queue.length + 1 ≤ 16 ∧
    16 ≤ (withQueue (List.replicate 16 askRecord) s).cle.queue.length ∧
    (countGet 3 b.held ≤ 20 ∧ countGet 3 wanting.wants ≤ 20) := by
  decide +kernel

theorem witness_ThePortFollowsTheLines :
    trading.inReset = false ∧ trading.lbp.bus = some .idle ∧ (onBus .busy trading).lbp.bus = some .busy ∧
    (∀ f, trading.lbp.frame ≠ .sending f) ∧ (∀ bytes v ms, trading.lbp.frame ≠ .stretching bytes v ms) ∧
    (sending [askRecord] trading).lbp.frame = .sending askFrame ∧ (sending [askRecord] trading).lbp.bus = some .busy :=
  ⟨rfl, rfl, rfl, fun _ h => (nomatch h), fun _ _ _ h => (nomatch h), rfl, rfl⟩

/-- A record to send, and one that the tables object to, alone and before another; an announcement in hand; an allotment owed; an echo; a
PRESENCE due and one that is not. -/
theorem witness_FrameBeginTakesTheOfferedFrame :
    trading.inReset = false ∧ trading.lbp.bus = some .idle ∧ trading.lbp.quiet = true ∧ trading.lbp.frame = .none ∧
    trading.pst.conflict = false ∧ (withQueue [claimRecord] trading).cle.queue = [claimRecord] ∧
    ¬ Objected (withQueue [claimRecord] trading) (carried claimRecord.kind) ∧
    Objected (withQueue [unknownClaim, claimRecord] trading) (carried unknownClaim.kind) ∧
    ¬ Objected (withQueue [unknownClaim, claimRecord] trading) (carried claimRecord.kind) ∧
    Objected (withQueue [unknownClaim] trading) (carried unknownClaim.kind) ∧ trading.cle.inFlight = .none ∧
    trading.cle.queue = [] ∧
    trading.cle.announcement = none ∧ trading.cle.owed = 0 ∧ trading.cle.echoes = [] ∧ trading.cle.presence = some 0 ∧
    (setOwed 31 0).getLsbD 31 = true ∧ (∀ a' < 31, (setOwed 31 0).getLsbD a' = false) ∧
    ({ trading with cle := { trading.cle with presence := some 10000 } } : State).cle.presence = some 10000 ∧
    ({ trading with pst := { trading.pst with conflict := true } } : State).pst.conflict = true := by
  simp only [Objected, carried, claimRecord, unknownClaim]; decide +kernel

theorem witness_LostFramesStayAtTheHead :
    let s := sending [claimRecord] selling
    s.inReset = false ∧ s.lbp.frame = .sending askFrame ∧ s.lbp.closing = false ∧ s.cle.inFlight = .head ∧
    s.cle.queue = [claimRecord] ∧ s.ageOf claimRecord.enqueued < 3000 ∧ s.lbp.tenure = 1 ∧
    claimRecord.kind.detached = false ∧ claimRecord.attempts < 3 := by decide +kernel

/-- The last record of a tenure, and one that others follow; the first three attempts and the fourth; a detached claim; a frame sent past
DAY_CLOSE. -/
theorem witness_FrameSentReadsBothSlots :
    let s := sending [claimRecord] selling
    let longer := sending [claimRecord, askRecord] selling
    let fourth : State := { s with lbp := { s.lbp with tenure := 4 } }
    let detached : Record := ⟨.allotClaim none 3 4, 0, 0⟩
    s.inReset = false ∧ s.lbp.frame = .sending askFrame ∧ s.lbp.closing = false ∧ s.cle.inFlight = .head ∧
    s.cle.queue = [claimRecord] ∧ claimRecord.kind = .allotClaim (some 0) 3 4 ∧ s.bst.get 0 = some (basket .trading) ∧
    s.cle.announcement = none ∧ s.cle.owed = 0 ∧ s.cle.echoes = [] ∧ fourth.lbp.tenure = 4 ∧ s.lbp.tenure < 4 ∧
    longer.cle.queue = [claimRecord, askRecord] ∧ ¬ Objected longer (carried askRecord.kind) ∧
    ¬ Objected (acceptedRecord claimRecord.kind (withQueue [askRecord] longer)) (carried askRecord.kind) ∧
    claimRecord.attempts < 3 ∧ s.ageOf claimRecord.enqueued < 3000 ∧ 3 ≤ (Record.mk claimRecord.kind 3 0).attempts ∧
    (sending [detached] selling).cle.queue = [detached] ∧ detached.kind = .allotClaim none 3 4 ∧
    ({ s with lbp := { s.lbp with closing := true } } : State).lbp.closing = true := by
  simp only [Objected, carried, askRecord, not_false_eq_true, and_true, true_and]; decide +kernel

/-- A HOLDINGS and a PRESENCE sent as announcements. -/
theorem witness_FrameSentReadsBothSlots_announcements :
    let told : Announcement := ⟨.holdings 3 4, 2, 0⟩
    let s := announcing told
    s.inReset = false ∧ s.lbp.frame = .sending askFrame ∧ s.lbp.closing = false ∧ s.cle.inFlight = .announcement ∧
    s.cle.announcement = some told ∧ told.kind = .holdings 3 4 ∧ s.lbp.tenure = 4 ∧ told.attempts < 3 ∧
    s.ageOf told.firstOffer < 3000 ∧ 3 ≤ (Announcement.mk (.holdings 3 7) 3 0).attempts ∧ s.stc.station = 4 ∧
    (announcing ⟨.presence, 0, 0⟩).cle.announcement = some ⟨.presence, 0, 0⟩ ∧
    (announcing ⟨.presence, 0, 0⟩).cle.queue = [] ∧ (announcing ⟨.presence, 0, 0⟩).cle.owed = 0 ∧
    (announcing ⟨.presence, 0, 0⟩).cle.echoes = [] := by
  decide +kernel

theorem witness_FrameSentReadsBothSlots_phase : ∀ tag, (basket .trading).state ≠ .finalising .f4 tag := fun _ h => nomatch h

/-- A frame of station 7 that is sound, one of a wrong length, one with a bad CRC, one of another day, one of an unknown kind, one out of
range and one that is objected to; one that bears station 4's own number. -/
theorem witness_AReceivedFrameIsJudged :
    let bytes := (LaneFrame.mk 7 38 412 (.allotClaim 3 4)).bytes
    let own := (LaneFrame.mk 4 38 412 (.allotClaim 3 4)).bytes
    let odd : List Byte := [0x00, 0x07, 0x00, 0x26, 0x01, 0x9C]
    (inHand .receiving trading).inReset = false ∧ (inHand .receiving trading).lbp.frame = .receiving ∧
    (inHand (.stretching bytes .silence 0) trading).lbp.frame = .stretching bytes .silence 0 ∧
    trading.foreign bytes = false ∧ wrongLength bytes = false ∧ crcMatches bytes = true ∧ trading.suspected bytes = false ∧
    heardSource bytes = 7 ∧ heardPayload bytes = some (.allotClaim 3 4) ∧ ¬ Objected trading (.allotClaim 3 4) ∧
    wrongLength [1, 2, 3] = true ∧ crcMatches (bytes.dropLast ++ [0]) = false ∧
    trading.foreign (LaneFrame.mk 7 39 412 .syncAsk).bytes = true ∧ heardPayload (odd ++ bytesOf 2 (crc odd).toNat) = none ∧
    heardPayload (LaneFrame.mk 7 38 412 (.holdings 32 7 1)).bytes = some (.holdings 32 7 1) ∧
    ¬ Objected trading (.holdings 32 7 1) ∧ ¬ InRange (.holdings 32 7 1) ∧ Objected trading (.allotClaim 3 100) ∧
    trading.suspected own = true ∧ wrongLength own = false ∧ crcMatches own = true ∧ trading.pst.conflict = false ∧
    (inHand .receiving (withQueue [claimRecord] selling)).cle.queue = [claimRecord] := by
  simp only [Objected, InRange]; decide +kernel

/-- A frame of each kind that a station hears of its peers, accepted, with a PRESENCE whose class is out of range; one in which this
station drove a slot; the first foreign frame of a peer; one that no peer sent. -/
theorem witness_AHeardFrameIsAppliedOnBothSlotsHigh :
    let bytes (p : Payload) : List Byte := (LaneFrame.mk 32 38 412 p).bytes
    let s := inHand (.judged (bytes (.allotClaim 31 99)) .silence false) trading
    let foreigner := (LaneFrame.mk 32 39 412 .syncAsk).bytes
    let kinds : List Payload := [.allotClaim 31 99, .allotRelease 0 1, .serialClaim 1 1, .serialRelease 1 1, .pointsClaim 1 1,
      .pointsRelease 1 1, .holdings 31 32 0, .purge 4, .syncAsk, .presence 4 4]
    s.inReset = false ∧ s.lbp.frame = .judged (bytes (.allotClaim 31 99)) .silence false ∧
    (∀ p ∈ kinds, heardPayload (bytes p) = some p ∧ trading.foreign (bytes p) = false ∧ wrongLength (bytes p) = false ∧
      crcMatches (bytes p) = true ∧ trading.suspected (bytes p) = false ∧ heardSource (bytes p) = 32) ∧
    InRange (.allotClaim 31 99) ∧ InRange (.allotRelease 0 1) ∧ InRange (.serialClaim 1 1) ∧ InRange (.pointsRelease 1 1) ∧
    InRange (.holdings 31 32 0) ∧ InRange (.purge 4) ∧ InRange .syncAsk ∧ 3 < 4 ∧ trading.cle.echoes.length = 0 ∧
    trading.foreign foreigner = true ∧ crcMatches foreigner = true ∧ tableGet 32 trading.pst.roster = none ∧
    crcMatches ((bytes .syncAsk).dropLast ++ [0]) = false := by
  simp only [InRange]; decide +kernel

/-- A hang on an idle bus, while a frame is sent, at its fourth attempt, of a detached claim, and after DAY_CLOSE; the eighth and the
ninth pulse; the check in FAULTED. -/
theorem witness_AHangIsRecoveredOrFaultsTheBus :
    let s := sending [claimRecord] selling
    let closing : State := { s with lbp := { s.lbp with closing := true } }
    trading.inReset = false ∧ trading.cle.inFlight = .none ∧ trading.lbp.bus = some .idle ∧ trading.lbp.closing = false ∧
    (∀ f, trading.lbp.frame ≠ .sending f) ∧ s.lbp.bus = some .busy ∧ s.lbp.closing = false ∧ s.lbp.frame = .sending askFrame ∧
    s.cle.inFlight = .head ∧ s.cle.queue = [claimRecord] ∧ claimRecord.attempts < 3 ∧ s.ageOf claimRecord.enqueued < 3000 ∧
    3 ≤ (Record.mk claimRecord.kind 3 0).attempts ∧ (RecordKind.allotClaim none 3 4).slot? = none ∧ closing.lbp.closing = true ∧
    (onBus (.hung 7) trading).lbp.bus = some (.hung 7) ∧ (onBus (.hung 8) trading).lbp.bus = some (.hung 8) ∧
    (onBus (.faulted 1000) trading).lbp.bus = some (.faulted 1000) :=
  ⟨rfl, rfl, rfl, rfl, fun _ h => (nomatch h), rfl, rfl, rfl, rfl, rfl, by decide, by decide, by decide, rfl, rfl, rfl, rfl, rfl⟩

/-- Two claims of 99 of the 150 units of allotment 3 under ALLOW, as the bus faults: the first is granted, and the second meets its units
and is refused; the basket's revision rises once for both serials of a queue under DENY (R24, R142, R143). -/
theorem test_claims_end_in_queue_order :
    let units : Record := ⟨.allotClaim (some 0) 3 99, 0, 0⟩
    let serial (n : Nat) : Record := ⟨.serialClaim (some 0) 7 n, 0, 0⟩
    let told (d : Degrade) (q : List Record) : State := onBus .busy (withQueue q (faulted d selling))
    let granted := (after (.hangDetected .lc) (told .allow [units, units])).bst.s0
    granted.map (fun b => (countGet 3 b.held, b.localMark, b.revision)) = some (99, true, 1) ∧
    ((after (.hangDetected .lc) (told .deny [serial 1, serial 2])).bst.s0).map (·.revision) = some 1 := by decide +kernel

/-- A claim that the policy ALLOW grants on these tables, one that it refuses, and one of a class whose policy is DENY. -/
theorem witness_AHangIsRecoveredOrFaultsTheBus_queue :
    let sold : State := { faulted .allow selling with cle := { selling.cle with sold := [(3, 147)] } }
    allows (faulted .allow selling) claimRecord.kind = true ∧ ¬ Objected (faulted .allow selling) (carried claimRecord.kind) ∧
    Objected sold (carried claimRecord.kind) ∧ allows (faulted .deny selling) claimRecord.kind = false ∧
    selling.bst.get 0 ≠ none := by
  simp only [Objected, carried, claimRecord]; decide +kernel

/-- A record in flight, and one of each kind that is not; an announcement of each kind; the presence timer; a station unheard for 30 s; a
join window at its end. -/
theorem witness_SpansRunOut :
    let heard : RosterEntry := { RosterEntry.opening with state := .present, sinceHeard := some 30000 }
    let told (k : AnnouncementKind) : State := { trading with cle := { trading.cle with announcement := some ⟨k, 0, 0⟩ } }
    trading.inReset = false ∧ (sending [claimRecord] selling).cle.queue[0]? = some claimRecord ∧
    (sending [claimRecord] selling).cle.inFlight = .head ∧
    (withQueue [askRecord, claimRecord] selling).cle.queue[1]? = some claimRecord ∧ selling.bst.get 0 ≠ none ∧
    (withQueue [⟨.allotRelease 3 2, 0, 0⟩] trading).cle.queue[0]? = some ⟨.allotRelease 3 2, 0, 0⟩ ∧
    trading.cle.inFlight ≠ .head ∧
    (withQueue [askRecord] { trading with stc := { trading.stc with join := .waiting } }).stc.join = .waiting ∧
    (announcing ⟨.presence, 0, 0⟩).cle.inFlight = .announcement ∧ (told .presence).cle.announcement = some ⟨.presence, 0, 0⟩ ∧
    (told .presence).cle.inFlight ≠ .announcement ∧ (told (.holdings 3 4)).cle.announcement = some ⟨.holdings 3 4, 0, 0⟩ ∧
    trading.stc.station = 4 ∧ (told (.holdings 3 7)).cle.announcement = some ⟨.holdings 3 7, 0, 0⟩ ∧ trading.cle.presence = some 0 ∧
    tableGet (7 : Byte).toNat ([(7, heard)] : Table RosterEntry) = some heard ∧
    ({ trading with stc := { trading.stc with join := .running 0 } } : State).stc.join = .running 0 := by decide +kernel

/-- Every law holds of the TRADING stations of these tests, and they take a step. -/
theorem witness_EveryStepKeepsItsLaws :
    trading.inv = true ∧ selling.inv = true ∧ holding.inv = true ∧ (scanning .e).inv = true ∧
    (sending [askRecord] selling).inv = true ∧ (elevated 5 selling).inv = true := by decide +kernel

theorem witness_EveryStepKeepsItsLaws_steps :
    ({ selling with pending := [.poll] } : State).inv = true ∧ ∃ t, step { selling with pending := [.poll] } = .next t :=
  ⟨by decide +kernel, _, rfl⟩

end Sys2Proof.Tests
end

-- ==== The evaluation engine: a waiting TOTAL ====
section
/-!
PROOF. TOTAL is answered at once from a current summary and waits otherwise (O34): its rule on the active basket is read once, and each
clause of the statement is one outcome of it.
-/

namespace Sys2Proof.Machine.EvaluationEngine

theorem priced_iff (s : State) (b : Basket) :
    s.priced b = true ↔ s.eve.scan = none ∧ b.summary.revision = b.revision := by
  simp [State.priced, Basket.current]

/-- The rule of TOTAL on the active basket, once the first checks have passed (R65). -/
def totalRule (h : Hdr) (s : State) (i : Fin 4) (b : Basket) : Answer :=
  if s.eve.waitingTotal.isSome then .refused (refusal .busy)
  else if s.priced b then .answered s (okReply (.total i b.summary))
  else .deferred { s with eve := { s.eve with waitingTotal := some h.tag } }

theorem execTotal_taken (h : Hdr) (s : State) (ht : Taken h (.total h) s) (hs : Serving s) :
    exec (.total h) s = .next ((onActive (totalRule h (taken s h)) (taken s h)).settle h.tag (taken s h)).sawLoss :=
  takeRequest_taken h _ _ _ s ht (headerOk_length h 0 ht.2.2.2) (by simp [trading, hs.1]) fun _ => hs.2

theorem execTotal_active (h : Hdr) (s : State) (i : Fin 4) (b : Basket) (ht : Taken h (.total h) s) (hs : Serving s)
    (ha : IsActive s i b) :
    exec (.total h) s = .next ((totalRule h (taken s h) i b).settle h.tag (taken s h)).sawLoss := by
  rw [execTotal_taken h s ht hs, onActive_some _ _ _ _ ha.taken]

/-- Settles O34: TOTAL with no active basket, and the three outcomes of its rule on one. -/
theorem totalIsAnsweredOrWaits : Obligations.TotalIsAnsweredOrWaits := by
  intro h s ht hs
  refine ⟨fun ha => ?_, fun i b ha hw => ?_, fun i b ha hw hsc hr => ?_, fun i b ha hw hn => ?_⟩
  · rw [execTotal_taken h s ht hs, onActive_none _ (taken s h) ha]
    rfl
  · have hsome : (taken s h).eve.waitingTotal.isSome = true := Option.isSome_iff_ne_none.2 hw
    rw [execTotal_active h s i b ht hs ha, totalRule, if_pos hsome]
    rfl
  · have hp : (taken s h).priced b = true := (priced_iff (taken s h) b).2 ⟨hsc, hr⟩
    rw [execTotal_active h s i b ht hs ha, totalRule, if_neg (by simp [taken, hw]), if_pos hp]
    rfl
  · have hp : ¬ (taken s h).priced b = true := fun hp =>
      have ⟨hsc, hr⟩ := (priced_iff (taken s h) b).1 hp
      hn.elim (· hsc) (· hr)
    rw [execTotal_active h s i b ht hs ha, totalRule, if_neg (by simp [taken, hw]), if_neg hp]
    rfl

end Sys2Proof.Machine.EvaluationEngine
end

-- ==== The evaluation engine: how an amount is apportioned ====
section
/-!
PROOF. The one apportionment procedure (R69): the places of the leftover units are a permutation, so the parts are together the whole
amount; and a part is at most its weight.
-/

namespace Sys2Proof.Machine.EvaluationEngine

/-! ## The order of the leftover units -/

/-- A participant, given with its remainder and its place, comes before another for a leftover unit (R69, step 4). -/
def comesBefore (x y : Nat × Nat) : Bool := decide (y.1 < x.1) || (x.1 == y.1 && decide (x.2 < y.2))

theorem comesBefore_iff (x y : Nat × Nat) : comesBefore x y = true ↔ y.1 < x.1 ∨ (x.1 = y.1 ∧ x.2 < y.2) := by
  simp [comesBefore]

theorem leftoverRank_eq_card (rems : List Nat) (y : Nat × Nat) :
    leftoverRank rems y.2 y.1 = (rems.zipIdx.toFinset.filter (fun x => comesBefore x y = true)).card := by
  have hn : rems.zipIdx.Nodup := List.Nodup.of_map Prod.snd (by simp [List.nodup_range'])
  rw [← List.toFinset_filter, List.toFinset_card_of_nodup (hn.filter _)]
  rfl

theorem leftoverRank_lt_of_comesBefore (rems : List Nat) (x y : Nat × Nat) (hx : x ∈ rems.zipIdx)
    (h : comesBefore x y = true) : leftoverRank rems x.2 x.1 < leftoverRank rems y.2 y.1 := by
  rw [leftoverRank_eq_card, leftoverRank_eq_card]
  refine Finset.card_lt_card (Finset.ssubset_iff_of_subset ?_ |>.2 ⟨x, ?_, ?_⟩)
  · refine Finset.monotone_filter_right _ fun z _ hz => ?_
    rw [comesBefore_iff] at *; omega
  · simp [hx, h]
  · simp [comesBefore]

theorem leftoverRank_lt_length (rems : List Nat) (x : Nat × Nat) (hx : x ∈ rems.zipIdx) :
    leftoverRank rems x.2 x.1 < rems.length := by
  have hcard : rems.zipIdx.toFinset.card ≤ rems.length := by simpa using List.toFinset_card_le rems.zipIdx
  rw [leftoverRank_eq_card]
  refine lt_of_lt_of_le (Finset.card_lt_card (Finset.filter_ssubset.2 ⟨x, ?_, ?_⟩)) hcard
  · simpa using hx
  · simp [comesBefore]

/-- Each place in the order of the leftover units belongs to one participant. -/
theorem leftoverRanks_perm (rems : List Nat) :
    (rems.zipIdx.map (fun e => leftoverRank rems e.2 e.1)).Perm (List.range rems.length) := by
  have hn : rems.zipIdx.Nodup := List.Nodup.of_map Prod.snd (by simp [List.nodup_range'])
  have hnodup : (rems.zipIdx.map (fun e => leftoverRank rems e.2 e.1)).Nodup := by
    refine List.Nodup.map_on (fun x hx y hy h => ?_) hn
    by_contra hne
    have htotal : comesBefore x y = true ∨ comesBefore y x = true := by
      rw [comesBefore_iff, comesBefore_iff]
      rw [Prod.ext_iff] at hne
      omega
    rcases htotal with hb | hb
    · exact (leftoverRank_lt_of_comesBefore rems x y hx hb).ne h
    · exact (leftoverRank_lt_of_comesBefore rems y x hy hb).ne' h
  refine (List.subperm_of_subset hnodup fun k hk => ?_).perm_of_length_le (by simp)
  obtain ⟨x, hx, rfl⟩ := List.mem_map.1 hk
  exact List.mem_range.2 (leftoverRank_lt_length rems x hx)

theorem countP_lt_range (k n : Nat) (h : k ≤ n) : (List.range n).countP (fun j => decide (j < k)) = k := by
  obtain ⟨d, rfl⟩ := Nat.exists_eq_add_of_le h
  rw [List.range_add, List.countP_append, List.countP_eq_length.2 (by simp), List.countP_eq_zero.2 (by simp)]
  simp

/-- As many participants are among the first `k` for a leftover unit as there are units, when there is one for each. -/
theorem countP_leftoverRank_lt (rems : List Nat) (k : Nat) (hk : k ≤ rems.length) :
    rems.zipIdx.countP (fun e => decide (leftoverRank rems e.2 e.1 < k)) = k := by
  have := (leftoverRanks_perm rems).countP_eq (fun j => decide (j < k))
  rw [List.countP_map, countP_lt_range k _ hk] at this
  exact this

theorem map_zipIdx_fst {α β : Type} (f : α → β) (l : List α) : l.zipIdx.map (fun e => f e.1) = l.map f := by
  conv_rhs => rw [← List.zipIdx_map_fst 0 l, List.map_map]
  rfl

/-- Every participant of a positive remainder comes before one of remainder 0. -/
theorem countP_pos_le_leftoverRank (rems : List Nat) (i : Nat) :
    rems.countP (fun r => decide (0 < r)) ≤ leftoverRank rems i 0 := by
  unfold leftoverRank
  calc rems.countP (fun r => decide (0 < r))
      = rems.zipIdx.countP (fun e => decide (0 < e.1)) := by
        conv_lhs => rw [← List.zipIdx_map_fst 0 rems, List.countP_map]
        rfl
    _ ≤ rems.zipIdx.countP (fun e => decide (0 < e.1) || (e.1 == 0 && decide (e.2 < i))) :=
        List.countP_mono_left fun e _ he => by simp_all
    _ = _ := List.countP_eq_length_filter

/-! ## The parts of an apportionment -/

/-- The remainders of an apportionment (R69, step 3). -/
def remainders (A : Nat) (ws : List Nat) : List Nat := ws.map (fun w => A * w % ws.sum)

/-- The units that the base parts of an apportionment leave over (R69, step 3). -/
def leftover (A : Nat) (ws : List Nat) : Nat := A - (ws.map (fun w => A * w / ws.sum)).sum

/-- The part of one participant, given with its weight and its place. -/
def partOf (A : Nat) (ws : List Nat) (e : Nat × Nat) : Nat :=
  A * e.1 / ws.sum + if leftoverRank (remainders A ws) e.2 (A * e.1 % ws.sum) < leftover A ws then 1 else 0

theorem apportion_eq_map (A : Nat) (ws : List Nat) (h : ws.sum ≠ 0) :
    apportion A ws = ws.zipIdx.map (partOf A ws) := by
  simp only [apportion, if_neg h, List.zip_map', List.zipIdx_map, List.map_map]
  refine List.map_congr_left fun e _ => ?_
  exact (add_ite _ (A * e.1 / ws.sum) 1 0).symm

@[simp] theorem apportion_length (A : Nat) (ws : List Nat) : (apportion A ws).length = ws.length := by
  by_cases h : ws.sum = 0
  · simp [apportion, h]
  · simp [apportion_eq_map A ws h]

theorem sum_map_div_mul_add_mod (A n : Nat) (ws : List Nat) :
    (ws.map (fun w => A * w / n)).sum * n + (ws.map (fun w => A * w % n)).sum = A * ws.sum := by
  induction ws with
  | nil => simp
  | cons w ws ih =>
    have := Nat.div_add_mod' (A * w) n
    simp only [List.map_cons, List.sum_cons, Nat.add_mul, Nat.mul_add]
    omega

theorem sum_bases_le (A : Nat) (ws : List Nat) (h : ws.sum ≠ 0) : (ws.map (fun w => A * w / ws.sum)).sum ≤ A := by
  refine Nat.le_of_mul_le_mul_right ?_ (Nat.pos_of_ne_zero h)
  have := sum_map_div_mul_add_mod A ws.sum ws
  omega

theorem leftover_mul_sum (A : Nat) (ws : List Nat) : leftover A ws * ws.sum = (remainders A ws).sum := by
  have := sum_map_div_mul_add_mod A ws.sum ws
  rw [leftover, Nat.sub_mul, remainders]
  omega

theorem sum_le_mul_countP_pos (n : Nat) (rems : List Nat) (h : ∀ r ∈ rems, r ≤ n) :
    rems.sum ≤ rems.countP (fun r => decide (0 < r)) * n := by
  induction rems with
  | nil => simp
  | cons r rems ih =>
    rw [List.forall_mem_cons] at h
    have := ih h.2
    rw [List.sum_cons, List.countP_cons, Nat.add_mul]
    rcases Nat.eq_zero_or_pos r with rfl | hr
    · simpa using this
    · simp [hr]; omega

/-- No more units are left over than there are participants of a positive remainder. -/
theorem leftover_le_countP_pos (A : Nat) (ws : List Nat) (h : ws.sum ≠ 0) :
    leftover A ws ≤ (remainders A ws).countP (fun r => decide (0 < r)) := by
  refine Nat.le_of_mul_le_mul_right ?_ (Nat.pos_of_ne_zero h)
  rw [leftover_mul_sum]
  refine sum_le_mul_countP_pos _ _ fun r hr => ?_
  obtain ⟨w, -, rfl⟩ := List.mem_map.1 hr
  exact (Nat.mod_lt _ (Nat.pos_of_ne_zero h)).le

theorem sum_map_ite_eq_countP {α : Type} (p : α → Prop) [DecidablePred p] (l : List α) :
    (l.map (fun x => if p x then 1 else 0)).sum = l.countP (fun x => decide (p x)) := by
  induction l with
  | nil => simp
  | cons x l ih => simp [List.countP_cons, ih, Nat.add_comm]

/-- The parts of an apportionment over a positive weight sum are together the whole amount (R69). -/
theorem apportion_sum (A : Nat) (ws : List Nat) (h : ws.sum ≠ 0) : (apportion A ws).sum = A := by
  have hk : leftover A ws ≤ (remainders A ws).length :=
    (leftover_le_countP_pos A ws h).trans List.countP_le_length
  have hextra : ws.zipIdx.countP (fun e =>
      decide (leftoverRank (remainders A ws) e.2 (A * e.1 % ws.sum) < leftover A ws)) = leftover A ws := by
    have := countP_leftoverRank_lt (remainders A ws) _ hk
    rwa [remainders, List.zipIdx_map, List.countP_map, ← remainders] at this
  calc (apportion A ws).sum
      = (ws.zipIdx.map (partOf A ws)).sum := by rw [apportion_eq_map A ws h]
    _ = (ws.zipIdx.map (fun e => A * e.1 / ws.sum)).sum + leftover A ws := by
        conv_rhs => rw [← hextra, ← sum_map_ite_eq_countP]
        rw [← List.sum_map_add]; rfl
    _ = (ws.map (fun w => A * w / ws.sum)).sum + leftover A ws := by
        rw [map_zipIdx_fst (fun w => A * w / ws.sum)]
    _ = A := Nat.add_sub_cancel' (sum_bases_le A ws h)

/-- A part is at most its weight when the amount is at most the sum of the weights (R69). -/
theorem apportion_le (A : Nat) (ws : List Nat) (hA : A ≤ ws.sum) : List.Forall₂ (· ≤ ·) (apportion A ws) ws := by
  by_cases h : ws.sum = 0
  · simp only [apportion, if_pos h, List.forall₂_map_left_iff, Nat.zero_le]
    exact List.forall₂_same.2 fun _ _ => trivial
  have hpart (e : Nat × Nat) : partOf A ws e ≤ e.1 := by
    have hdiv := Nat.div_add_mod (A * e.1) ws.sum
    have hmul : A * e.1 ≤ ws.sum * e.1 := Nat.mul_le_mul_right _ hA
    unfold partOf
    rcases Nat.eq_zero_or_pos (A * e.1 % ws.sum) with h0 | hpos
    · have hrank := (leftover_le_countP_pos A ws h).trans (countP_pos_le_leftoverRank (remainders A ws) e.2)
      rw [h0, if_neg (by omega)]
      exact Nat.div_le_of_le_mul hmul
    · have : A * e.1 / ws.sum < e.1 := Nat.lt_of_mul_lt_mul_left (a := ws.sum) (by omega)
      split <;> omega
  rw [apportion_eq_map A ws h]
  conv => arg 3; rw [← List.zipIdx_map_fst 0 ws]
  rw [List.forall₂_map_left_iff, List.forall₂_map_right_iff]
  exact List.forall₂_same.2 fun e _ => hpart e

theorem le_of_mem_zip_apportion {α : Type} (A : Nat) (f : α → Nat) (l : List α) (hA : A ≤ (l.map f).sum) (e : α × Nat)
    (he : e ∈ l.zip (apportion A (l.map f))) : e.2 ≤ f e.1 :=
  (List.forall₂_zip ((List.forall₂_map_left_iff.1 ((apportion_le A _ hA).flip)))) he

end Sys2Proof.Machine.EvaluationEngine
end

-- ==== The evaluation engine: the law of the priced basket ====
section
/-!
PROOF. The law of the priced basket (R83) clause by clause and position by position, and what an adjustment leaves of it: the rows of the
reading each give their part of the amount (`Prepared`), and the nets fall by just that.
-/

namespace Sys2Proof.Machine.EvaluationEngine

/-! ## The law, clause by clause -/

theorem lineSum_eq_filter (p : WLine → Bool) (f : WLine → Nat) (ls : List WLine) :
    lineSum p f ls = ((ls.filter p).map f).sum := by
  unfold lineSum
  induction ls with
  | nil => rfl
  | cons l ls ih => cases h : p l <;> simp [h, ih]

/-- The sums of the law: nets, promotions and the stage E amount make up the stage-A amounts, and no net is above its own. -/
def Balanced (sc : Scan) : Prop :=
  sc.net + sc.promotionDiscount + sc.stageE = sc.stageASum ∧ ∀ l ∈ sc.lines, l.live = true → l.net ≤ l.stageA

/-- The net of a line that takes part is at least its free value. -/
def CoversFreeValue (l : WLine) : Prop := l.live = true → l.override = none → valueLeft l ≤ l.net

/-- A line that takes part and is not tiered stands at its base price, with nothing of it consumed. -/
def AtBasePrice (l : WLine) : Prop := l.live = true → l.override = none → l.tier = none →
  l.net = l.extended ∧ l.extended = extendedAmount l.measure l.base l.qty ∧ l.consumedUnits = 0 ∧ l.consumedFlag = false

theorem pricedLaw_iff (sc : Scan) (p : Position) : PricedLaw sc p ↔
    Balanced sc ∧
    ((∃ stage k, p = .visit stage k ∧ stage ≠ .f) ∨ p = .e → sc.stageE = 0) ∧
    ((∃ k, p = .visit .b k) ∨ (∃ k, p = .visit .c k) → ∀ l ∈ sc.lines, CoversFreeValue l) ∧
    ((∃ k, p = .visit .b k) → ∀ l ∈ sc.lines, AtBasePrice l) := by
  simp only [PricedLaw, Balanced, Scan.net, Scan.stageASum, lineSum_eq_filter, List.mem_filter, and_imp, and_assoc,
    CoversFreeValue, AtBasePrice]
  rfl

theorem pricedLaw_visit_b (sc : Scan) (k : Nat) : PricedLaw sc (.visit .b k) ↔
    Balanced sc ∧ sc.stageE = 0 ∧ (∀ l ∈ sc.lines, CoversFreeValue l) ∧ ∀ l ∈ sc.lines, AtBasePrice l := by
  simp [pricedLaw_iff]

theorem pricedLaw_visit_c (sc : Scan) (k : Nat) : PricedLaw sc (.visit .c k) ↔
    Balanced sc ∧ sc.stageE = 0 ∧ ∀ l ∈ sc.lines, CoversFreeValue l := by
  simp [pricedLaw_iff]

theorem pricedLaw_visit_d (sc : Scan) (k : Nat) : PricedLaw sc (.visit .d k) ↔ Balanced sc ∧ sc.stageE = 0 := by
  simp [pricedLaw_iff]

theorem pricedLaw_e (sc : Scan) : PricedLaw sc .e ↔ Balanced sc ∧ sc.stageE = 0 := by simp [pricedLaw_iff]

theorem pricedLaw_visit_f (sc : Scan) (k : Nat) : PricedLaw sc (.visit .f k) ↔ Balanced sc := by simp [pricedLaw_iff]

theorem pricedLaw_f (sc : Scan) : PricedLaw sc .f ↔ Balanced sc := by simp [pricedLaw_iff]

theorem pricedLaw_g (sc : Scan) : PricedLaw sc .g ↔ Balanced sc := by simp [pricedLaw_iff]

/-- Within a stage the law is the same at every entry. -/
theorem pricedLaw_visit_any (st : VisitStage) (sc : Scan) (k n : Nat) :
    PricedLaw sc (.visit st k) ↔ PricedLaw sc (.visit st n) := by
  cases st <;> simp [pricedLaw_iff]

/-- The law asks no more of a scan at the position after a visit. -/
theorem pricedLaw_nextPosition (sc sc' : Scan) (st : VisitStage) (n : Nat) (h : PricedLaw sc' (.visit st n)) :
    PricedLaw sc' (nextPosition st n sc) := by
  unfold nextPosition
  split
  · cases st with
    | b =>
      obtain ⟨hbal, hE, hfree, -⟩ := (pricedLaw_visit_b _ _).1 h
      exact (pricedLaw_visit_c _ _).2 ⟨hbal, hE, hfree⟩
    | c =>
      obtain ⟨hbal, hE, -⟩ := (pricedLaw_visit_c _ _).1 h
      exact (pricedLaw_visit_d _ _).2 ⟨hbal, hE⟩
    | d => exact (pricedLaw_e _).2 ((pricedLaw_visit_d _ _).1 h)
    | f => exact (pricedLaw_f _).2 ((pricedLaw_visit_f _ _).1 h)
  · exact (pricedLaw_visit_any st sc' _ n).2 h

theorem balanced_of_map (sc sc' : Scan) (f : WLine → WLine) (h : Balanced sc) (hl : sc'.lines = sc.lines.map f)
    (hlive : ∀ l, (f l).live = l.live) (hnet : ∀ l, (f l).net = l.net) (hstage : ∀ l, (f l).stageA = l.stageA)
    (ha : sc'.adjustments = sc.adjustments) (he : sc'.stageE = sc.stageE) : Balanced sc' := by
  simpa [Balanced, Scan.net, Scan.stageASum, Scan.promotionDiscount, lineSum, hl, ha, he, Function.comp_def, hlive, hnet,
    hstage] using h

/-! ## A share -/

section
variable (i p : Nat) (l : WLine)

@[simp] theorem addShare_live : (addShare i p l).live = l.live := by unfold addShare; split <;> rfl
@[simp] theorem addShare_override : (addShare i p l).override = l.override := by unfold addShare; split <;> rfl
@[simp] theorem addShare_stageA : (addShare i p l).stageA = l.stageA := by unfold addShare; split <;> rfl
@[simp] theorem addShare_tier : (addShare i p l).tier = l.tier := by unfold addShare; split <;> rfl
@[simp] theorem addShare_measure : (addShare i p l).measure = l.measure := by unfold addShare; split <;> rfl
@[simp] theorem addShare_base : (addShare i p l).base = l.base := by unfold addShare; split <;> rfl
@[simp] theorem addShare_qty : (addShare i p l).qty = l.qty := by unfold addShare; split <;> rfl
@[simp] theorem addShare_extended : (addShare i p l).extended = l.extended := by unfold addShare; split <;> rfl
@[simp] theorem addShare_consumedUnits : (addShare i p l).consumedUnits = l.consumedUnits := by
  unfold addShare; split <;> rfl
@[simp] theorem addShare_consumedFlag : (addShare i p l).consumedFlag = l.consumedFlag := by
  unfold addShare; split <;> rfl

@[simp] theorem addShare_net : (addShare i p l).net = l.net - p := by unfold addShare; split <;> simp_all

@[simp] theorem addShare_zero : addShare i 0 l = l := rfl

@[simp] theorem valueLeft_addShare : valueLeft (addShare i p l) = valueLeft l := by
  simp [valueLeft, unitsLeft, unitPrice]

end

/-! ## An adjustment and the law -/

/-- A line `l`, priced or consumed to `l'`, can give the part `p`. -/
structure Gives (l l' : WLine) (p : Nat) : Prop where
  live : l'.live = l.live
  stageA : l'.stageA = l.stageA
  net : l'.net = l.net
  le_net : p ≤ if l.live then l.net else 0

/-- `base` is `sc` with its lines priced or consumed, row by row, so that each can give its part of `amount`. -/
structure Prepared {α : Type} (sc base : Scan) (rows : List α) (line upd : α → WLine) (part : α → Nat) (amount : Nat) :
    Prop where
  lines : sc.lines = rows.map line
  base_lines : base.lines = rows.map upd
  adjustments : base.adjustments = sc.adjustments
  stageE : base.stageE = sc.stageE
  amount : (rows.map part).sum = amount
  gives : ∀ r ∈ rows, Gives (line r) (upd r) (part r)

section
variable {α : Type} {sc base : Scan} {rows : List α} {line upd : α → WLine} {part : α → Nat} {amount : Nat}
  (entry : Option Nat) (kind : AdjKind) (units : Option Nat) (coupon : Option (Nat × Nat))

theorem writeAdjustment_lines_of_rows (hb : base.lines = rows.map upd) :
    (writeAdjustment base entry kind amount units coupon (rows.map part)).lines =
      rows.map (fun r => addShare (base.adjustments.length + 1) (part r) (upd r)) := by
  simp [writeAdjustment, hb, List.zipWith_map, List.zipWith_self]

theorem forall_mem_writeAdjustment (hb : base.lines = rows.map upd) (P : WLine → Prop) :
    (∀ l ∈ (writeAdjustment base entry kind amount units coupon (rows.map part)).lines, P l) ↔
      ∀ r ∈ rows, P (addShare (base.adjustments.length + 1) (part r) (upd r)) := by
  rw [writeAdjustment_lines_of_rows _ _ _ _ hb, List.forall_mem_map]

/-- The amount of an adjustment leaves the nets of the LIVE lines. -/
theorem net_writeAdjustment (h : Prepared sc base rows line upd part amount) :
    (writeAdjustment base entry kind amount units coupon (rows.map part)).net + amount = sc.net := by
  simp only [Scan.net, lineSum, writeAdjustment_lines_of_rows _ _ _ _ h.base_lines, h.lines, List.map_map]
  rw [← h.amount, ← List.sum_map_add]
  refine congrArg List.sum (List.map_congr_left fun r hr => ?_)
  have hg := h.gives r hr
  have := hg.le_net
  simp only [Function.comp, addShare_live, addShare_net, hg.live, hg.net]
  split_ifs at * <;> omega

theorem stageASum_writeAdjustment (h : Prepared sc base rows line upd part amount) :
    (writeAdjustment base entry kind amount units coupon (rows.map part)).stageASum = sc.stageASum := by
  simp only [Scan.stageASum, lineSum, writeAdjustment_lines_of_rows _ _ _ _ h.base_lines, h.lines, List.map_map]
  refine congrArg List.sum (List.map_congr_left fun r hr => ?_)
  have hg := h.gives r hr
  simp [hg.live, hg.stageA]

theorem net_le_stageA_writeAdjustment (h : Prepared sc base rows line upd part amount)
    (hle : ∀ l ∈ sc.lines, l.live = true → l.net ≤ l.stageA) :
    ∀ l ∈ (writeAdjustment base entry kind amount units coupon (rows.map part)).lines, l.live = true → l.net ≤ l.stageA := by
  rw [forall_mem_writeAdjustment _ _ _ _ h.base_lines]
  intro r hr hlive
  have hg := h.gives r hr
  rw [addShare_live, hg.live] at hlive
  have := hle (line r) (by rw [h.lines]; exact List.mem_map_of_mem hr) hlive
  rw [addShare_net, addShare_stageA, hg.net, hg.stageA]
  omega

theorem promotionDiscount_writeAdjustment (h : Prepared sc base rows line upd part amount) :
    (writeAdjustment base entry kind amount units coupon (rows.map part)).promotionDiscount =
      sc.promotionDiscount + if kind = .basketDiscount then 0 else amount := by
  by_cases hk : kind = .basketDiscount <;>
    simp [Scan.promotionDiscount, writeAdjustment, h.adjustments, List.filter_append, hk]

/-- A promotion's adjustment keeps the sums of the law. -/
theorem balanced_writeAdjustment (hb : Balanced sc) (h : Prepared sc base rows line upd part amount)
    (hk : kind ≠ .basketDiscount) :
    Balanced (writeAdjustment base entry kind amount units coupon (rows.map part)) := by
  refine ⟨?_, net_le_stageA_writeAdjustment _ _ _ _ h hb.2⟩
  have hE : (writeAdjustment base entry kind amount units coupon (rows.map part)).stageE = sc.stageE := h.stageE
  rw [stageASum_writeAdjustment _ _ _ _ h, promotionDiscount_writeAdjustment _ _ _ _ h, if_neg hk, hE, ← hb.1,
    ← net_writeAdjustment entry kind units coupon h]
  omega

/-- The basket discount's adjustment keeps the sums of the law, with its amount as that of stage E. -/
theorem balanced_basketDiscount (hb : Balanced sc) (h0 : sc.stageE = 0) (h : Prepared sc base rows line upd part amount) :
    Balanced { writeAdjustment base entry .basketDiscount amount units coupon (rows.map part) with stageE := amount } := by
  refine ⟨?_, net_le_stageA_writeAdjustment entry .basketDiscount units coupon h hb.2⟩
  have hnet := net_writeAdjustment entry .basketDiscount units coupon h
  have hpromo := promotionDiscount_writeAdjustment entry .basketDiscount units coupon h
  have hstage := stageASum_writeAdjustment entry .basketDiscount units coupon h
  have hsum := hb.1
  simp only [Scan.net, Scan.promotionDiscount, Scan.stageASum] at *
  simp at hpromo
  omega

end

/-- Parts shared by weights that stand for LIVE lines' nets, of an amount up to their sum. -/
theorem prepared_apportion (sc : Scan) (A : Nat) (w : WLine → Nat) (hw : ∀ l, w l ≤ if l.live then l.net else 0)
    (h0 : A ≠ 0) (hA : A ≤ (sc.lines.map w).sum) :
    Prepared sc sc (sc.lines.zip (apportion A (sc.lines.map w))) Prod.fst Prod.fst Prod.snd A where
  lines := (List.map_fst_zip (by simp)).symm
  base_lines := (List.map_fst_zip (by simp)).symm
  adjustments := rfl
  stageE := rfl
  amount := by rw [List.map_snd_zip (by simp), apportion_sum _ _ (by omega)]
  gives r hr := ⟨rfl, rfl, rfl, (le_of_mem_zip_apportion A w sc.lines hA r hr).trans (hw r.1)⟩

end Sys2Proof.Machine.EvaluationEngine
end

-- ==== The evaluation engine: the entries keep the law ====
section
/-!
PROOF. The entries of stages B and C, kind by kind, keep the law of the priced basket: each line that takes part gives no more than the free
value that is consumed of it (`Consumes`).
-/

namespace Sys2Proof.Machine.EvaluationEngine

/-! ## Lines that take part -/

theorem takesPart_iff (g : Nat) (l : WLine) :
    takesPart g l = true ↔ l.live = true ∧ l.override = none ∧ inGroup g l = true := by
  simp [takesPart, WLine.overridden, and_assoc]

theorem freeUnits_eq (l : WLine) : l.freeUnits = unitsLeft l := by cases h : l.measure <;> simp [WLine.freeUnits, unitsLeft, h]

theorem current_eq (l : WLine) : l.current = unitPrice l := rfl

theorem freeValue_eq (l : WLine) : l.freeValue = valueLeft l := by
  cases h : l.measure <;> simp [WLine.freeValue, valueLeft, freeUnits_eq, current_eq, h]

theorem valueLeft_each (l : WLine) (h : l.measure = .each) : valueLeft l = (l.qty - l.consumedUnits) * l.current := by
  simp [valueLeft, unitsLeft, current_eq, h]

/-! ## Stage B -/

theorem extendedAmount_mono (m : Measure) {b b' : Nat} (q : Nat) (h : b ≤ b') :
    extendedAmount m b q ≤ extendedAmount m b' q := by
  have hm : b * q ≤ b' * q := Nat.mul_le_mul_right _ h
  cases m
  case each => exact hm
  all_goals exact Nat.div_le_div_right (Nat.add_le_add_right hm _)

theorem tierCandidate_iff (g : Nat) (m : Measure) (t : Nat) (l : WLine) : tierCandidate g m t l = true ↔
    takesPart g l = true ∧ l.measure = m ∧ l.tier = none ∧ t < l.base := by
  simp [tierCandidate, and_assoc]

/-- A line after a QUANTITY_BREAK at the tier price `t` (R70). -/
def tieredLine (g : Nat) (m : Measure) (t : Nat) (l : WLine) : WLine :=
  if tierCandidate g m t l then { l with tier := some t, extended := extendedAmount m t l.qty } else l

/-- What a QUANTITY_BREAK at the tier price `t` takes off a line (R70). -/
def tierPart (g : Nat) (m : Measure) (t : Nat) (l : WLine) : Nat :=
  if tierCandidate g m t l then l.extended - extendedAmount m t l.qty else 0

section
variable (g : Nat) (m : Measure) (t : Nat) (l : WLine)

/-- A candidate is a LIVE line at its base price, which the tier price does not raise. -/
theorem tierCandidate_atBase (hc : tierCandidate g m t l = true) (hb : AtBasePrice l) :
    l.live = true ∧ l.measure = m ∧ l.net = l.extended ∧ extendedAmount m t l.qty ≤ l.extended ∧ l.consumedUnits = 0 ∧
      l.consumedFlag = false := by
  obtain ⟨htp, rfl, htier, hlt⟩ := (tierCandidate_iff _ _ _ _).1 hc
  obtain ⟨hlive, hov, -⟩ := (takesPart_iff _ _).1 htp
  obtain ⟨hnet, hext, hu, hf⟩ := hb hlive hov htier
  exact ⟨hlive, rfl, hnet, hext ▸ extendedAmount_mono _ _ hlt.le, hu, hf⟩

theorem gives_tieredLine (hb : AtBasePrice l) : Gives l (tieredLine g m t l) (tierPart g m t l) := by
  unfold tieredLine tierPart
  by_cases hc : tierCandidate g m t l = true
  · obtain ⟨hlive, -, hnet, -⟩ := tierCandidate_atBase g m t l hc hb
    simp only [hc, if_true]
    exact ⟨rfl, rfl, rfl, by rw [if_pos hlive, hnet]; exact Nat.sub_le _ _⟩
  · simp only [hc]
    exact ⟨rfl, rfl, rfl, Nat.zero_le _⟩

/-- The free value of a tiered line, of which nothing is consumed, is its extended amount at the tier price. -/
theorem valueLeft_tieredLine (hc : tierCandidate g m t l = true) (hb : AtBasePrice l) :
    valueLeft (tieredLine g m t l) = extendedAmount m t l.qty := by
  obtain ⟨-, rfl, -, -, hu, hf⟩ := tierCandidate_atBase g m t l hc hb
  rw [tieredLine, if_pos hc]
  cases h : l.measure <;> simp [valueLeft, unitsLeft, unitPrice, extendedAmount, hu, hf, Nat.mul_comm]

theorem coversFreeValue_tieredLine (i : Nat) (hb : AtBasePrice l) (hf : CoversFreeValue l) :
    CoversFreeValue (addShare i (tierPart g m t l) (tieredLine g m t l)) := by
  by_cases hc : tierCandidate g m t l = true
  · intro _ _
    obtain ⟨-, -, hnet, hle, -⟩ := tierCandidate_atBase g m t l hc hb
    rw [valueLeft_addShare, addShare_net, valueLeft_tieredLine g m t l hc hb, (gives_tieredLine g m t l hb).net, tierPart,
      if_pos hc]
    omega
  · simpa [tieredLine, tierPart, hc] using hf

theorem atBasePrice_tieredLine (i : Nat) (hb : AtBasePrice l) :
    AtBasePrice (addShare i (tierPart g m t l) (tieredLine g m t l)) := by
  by_cases hc : tierCandidate g m t l = true
  · simp [AtBasePrice, tieredLine, hc]
  · simpa [tieredLine, tierPart, hc] using hb

end

theorem pricedLaw_quantityBreak (sc : Scan) (n k : Nat) (e : PromoEntry) (m : Measure) (threshold t : Nat)
    (h : PricedLaw sc (.visit .b k)) : PricedLaw (quantityBreak sc n e m threshold t) (.visit .b k) := by
  unfold quantityBreak
  extract_lets qualifying parts tiered
  split_ifs with hq hp hr
  · exact h
  · exact h
  · exact h
  obtain ⟨hbal, hE, hfree, hbase⟩ := (pricedLaw_visit_b _ _).1 h
  have hprep : Prepared sc tiered sc.lines id (tieredLine e.group m t) (tierPart e.group m t) parts.sum :=
    { lines := (List.map_id _).symm, base_lines := rfl, adjustments := rfl, stageE := rfl, amount := rfl
      gives := fun l hl => gives_tieredLine _ _ _ _ (hbase l hl) }
  refine (pricedLaw_visit_b _ _).2 ⟨balanced_writeAdjustment _ _ _ _ hbal hprep (by decide), hE, ?_, ?_⟩
  · exact (forall_mem_writeAdjustment _ _ _ _ hprep.base_lines _).2 fun l hl =>
      coversFreeValue_tieredLine _ _ _ _ _ (hbase l hl) (hfree l hl)
  · exact (forall_mem_writeAdjustment _ _ _ _ hprep.base_lines _).2 fun l hl => atBasePrice_tieredLine _ _ _ _ _ (hbase l hl)

/-! ## Stage C -/

/-- A line `l` of group `g`, consumed to `l'`, can give the part `p`: the free value that is left and the part come out of its own. -/
structure Consumes (g : Nat) (l l' : WLine) (p : Nat) : Prop where
  live : l'.live = l.live
  stageA : l'.stageA = l.stageA
  net : l'.net = l.net
  override : l'.override = l.override
  value : p + valueLeft l' ≤ valueLeft l
  elsewhere : takesPart g l = false → p = 0

theorem Consumes.gives {g : Nat} {l l' : WLine} {p : Nat} (h : Consumes g l l' p) (hc : CoversFreeValue l) : Gives l l' p := by
  refine ⟨h.live, h.stageA, h.net, ?_⟩
  cases htp : takesPart g l with
  | false => rw [h.elsewhere htp]; exact Nat.zero_le _
  | true =>
    obtain ⟨hlive, hov, -⟩ := (takesPart_iff _ _).1 htp
    have := hc hlive hov
    have := h.value
    rw [if_pos hlive]
    omega

theorem Consumes.covers {g i : Nat} {l l' : WLine} {p : Nat} (h : Consumes g l l' p) (hc : CoversFreeValue l) :
    CoversFreeValue (addShare i p l') := by
  intro hlive hov
  rw [addShare_live, h.live] at hlive
  rw [addShare_override, h.override] at hov
  have := hc hlive hov
  have := h.value
  rw [valueLeft_addShare, addShare_net, h.net]
  omega

/-- Consuming `c` of a line's free units lets it give up to their price. -/
theorem consumes_units (g : Nat) (l : WLine) (c p : Nat) (hc : c ≤ l.freeUnits) (hp : p ≤ c * l.current)
    (h0 : takesPart g l = false → c = 0) : Consumes g l { l with consumedUnits := l.consumedUnits + c } p where
  live := rfl
  stageA := rfl
  net := rfl
  override := rfl
  value := by
    by_cases hm : l.measure = .each
    · obtain ⟨d, hd⟩ := Nat.exists_eq_add_of_le hc
      simp only [WLine.freeUnits, hm] at hd
      rw [valueLeft_each l hm, valueLeft_each { l with consumedUnits := l.consumedUnits + c } hm]
      change p + (l.qty - (l.consumedUnits + c)) * l.current ≤ _
      rw [← Nat.sub_sub, hd, Nat.add_sub_cancel_left, Nat.add_mul]
      omega
    · obtain rfl : c = 0 := by simpa [freeUnits_eq, unitsLeft, hm] using hc
      obtain rfl : p = 0 := by simpa using hp
      exact (Nat.zero_add _).le
  elsewhere h := by
    have := h0 h
    subst this
    simpa using hp

/-- A stage C adjustment whose rows consume what they give keeps the law. -/
theorem pricedLaw_writeAdjustment_c {α : Type} {sc base : Scan} {rows : List α} {line upd : α → WLine} {part : α → Nat}
    {amount k g : Nat} (entry : Option Nat) (kind : AdjKind) (units : Option Nat) (coupon : Option (Nat × Nat))
    (h : PricedLaw sc (.visit .c k)) (hl : sc.lines = rows.map line) (hb : base.lines = rows.map upd)
    (ha : base.adjustments = sc.adjustments) (he : base.stageE = sc.stageE) (hsum : (rows.map part).sum = amount)
    (hk : kind ≠ .basketDiscount) (hc : ∀ r ∈ rows, Consumes g (line r) (upd r) (part r)) :
    PricedLaw (writeAdjustment base entry kind amount units coupon (rows.map part)) (.visit .c k) := by
  obtain ⟨hbal, hE, hfree⟩ := (pricedLaw_visit_c _ _).1 h
  rw [hl, List.forall_mem_map] at hfree
  have hprep : Prepared sc base rows line upd part amount :=
    ⟨hl, hb, ha, he, hsum, fun r hr => (hc r hr).gives (hfree r hr)⟩
  refine (pricedLaw_visit_c _ _).2 ⟨balanced_writeAdjustment _ _ _ _ hbal hprep hk, he.trans hE, ?_⟩
  exact (forall_mem_writeAdjustment _ _ _ _ hb _).2 fun r hr => (hc r hr).covers (hfree r hr)

/-! ### PERCENT_OFF -/

theorem halfUp_percent_le (x rate : Nat) (h : rate ≤ 10000) : halfUp (x * rate) 10000 ≤ x := by
  have : x * rate ≤ x * 10000 := Nat.mul_le_mul_left _ h
  unfold halfUp
  omega

theorem valueLeft_consumeAll (l : WLine) : valueLeft l.consumeAll = 0 := by
  cases h : l.measure <;> simp [WLine.consumeAll, valueLeft, unitsLeft, h]

theorem consumes_all (g : Nat) (l : WLine) (p : Nat) (hp : p ≤ if takesPart g l then l.freeValue else 0) :
    Consumes g l (if takesPart g l then l.consumeAll else l) p := by
  cases htp : takesPart g l with
  | false =>
    simp only [htp, Bool.false_eq_true, if_false, Nat.le_zero] at hp ⊢
    subst hp
    exact ⟨rfl, rfl, rfl, rfl, by simp, fun _ => rfl⟩
  | true =>
    simp only [htp, if_true] at hp ⊢
    have hall : l.consumeAll.live = l.live ∧ l.consumeAll.stageA = l.stageA ∧ l.consumeAll.net = l.net ∧
        l.consumeAll.override = l.override := by unfold WLine.consumeAll; split <;> simp
    obtain ⟨hlive, hstage, hnet, hov⟩ := hall
    exact ⟨hlive, hstage, hnet, hov, by rw [valueLeft_consumeAll]; exact freeValue_eq l ▸ hp, by simp [htp]⟩

theorem pricedLaw_percentOff (sc : Scan) (n k : Nat) (e : PromoEntry) (rate minimum : Nat) (hrate : rate ≤ 10000)
    (h : PricedLaw sc (.visit .c k)) : PricedLaw (percentOff sc n e rate minimum) (.visit .c k) := by
  unfold percentOff
  extract_lets weights spend discount parts units consumed
  split_ifs with hs hr
  · exact h
  · exact h
  have hle : discount ≤ weights.sum := halfUp_percent_le _ _ hrate
  have hparts : parts.length = sc.lines.length := by simp [parts, weights]
  have hlines : sc.lines = (sc.lines.zip parts).map Prod.fst := (List.map_fst_zip hparts.ge).symm
  rw [← List.map_snd_zip (l₁ := sc.lines) (l₂ := parts) hparts.le]
  refine pricedLaw_writeAdjustment_c (g := e.group) (line := Prod.fst)
    (upd := fun r => if takesPart e.group r.1 then r.1.consumeAll else r.1) _ _ _ _ h hlines
    ((congrArg _ hlines).trans List.map_map) rfl rfl ?_ (by decide) fun r hr => ?_
  · rw [List.map_snd_zip hparts.le]
    exact apportion_sum _ _ (by omega)
  · exact consumes_all _ _ _ (le_of_mem_zip_apportion discount _ sc.lines hle r hr)

/-! ### ALLOTMENT_PRICE -/

@[simp] theorem assignUnits_length (picks : WLine → Bool) (c : Nat) (ls : List WLine) :
    (assignUnits picks c ls).length = ls.length := by
  induction ls generalizing c with
  | nil => rfl
  | cons l ls ih => simp [assignUnits, ih]

theorem mem_zip_assignUnits (picks : WLine → Bool) (c : Nat) (ls : List WLine) (r : Nat × WLine)
    (hr : r ∈ (assignUnits picks c ls).zip ls) : r.1 ≤ r.2.freeUnits ∧ (picks r.2 = false → r.1 = 0) := by
  induction ls generalizing c with
  | nil => simp [assignUnits] at hr
  | cons l ls ih =>
    rw [assignUnits, List.zip_cons_cons, List.mem_cons] at hr
    rcases hr with rfl | hr
    · cases h : picks l <;> simp
    · exact ih _ hr

theorem pricedLaw_allotmentPrice (sc : Scan) (n k : Nat) (e : PromoEntry) (a special held : Nat)
    (h : PricedLaw sc (.visit .c k)) : PricedLaw (allotmentPrice sc n e a special held) (.visit .c k) := by
  unfold allotmentPrice
  extract_lets want counts parts wanting consumed
  split_ifs with hp hr
  · exact h
  · exact h
  have hparts : parts = (counts.zip sc.lines).map (fun r => r.1 * (r.2.current - special)) := by
    simp only [parts, List.zip, List.map_zipWith]
  rw [hparts]
  refine pricedLaw_writeAdjustment_c (g := e.group) (line := Prod.snd)
    (upd := fun r => { r.2 with consumedUnits := r.2.consumedUnits + r.1 }) _ _ _ _ h
    (List.map_snd_zip (by simp [counts])).symm ?_ rfl rfl rfl (by decide) fun r hr => ?_
  · simp only [consumed, List.zip, List.map_zipWith]
  · obtain ⟨hfree, h0⟩ := mem_zip_assignUnits _ _ _ r hr
    exact consumes_units _ _ _ _ hfree (Nat.mul_le_mul_left _ (Nat.sub_le _ _)) h0

theorem sum_map_ite_eq_count_mul {α : Type} [DecidableEq α] [BEq α] [LawfulBEq α] (a : α) (f : α → Nat) (l : List α) :
    (l.map (fun x => if a = x then f x else 0)).sum = l.count a * f a := by
  induction l with
  | nil => simp
  | cons x l ih =>
    rcases eq_or_ne a x with rfl | h
    · simp [ih, Nat.add_mul, Nat.add_comm]
    · simp [ih, h, h.symm]

/-! ### MULTIBUY: the units it draws on -/

theorem insertUnit_perm (u : Nat × Nat) (l : List (Nat × Nat)) : (insertUnit u l).Perm (u :: l) := by
  induction l with
  | nil => rfl
  | cons v t ih =>
    unfold insertUnit
    split
    · rfl
    · exact (ih.cons v).trans (.swap u v t)

theorem orderByPrice_perm (ls : List (Nat × Nat)) : (orderByPrice ls).Perm ls := by
  have (acc : List (Nat × Nat)) : (ls.foldl (fun acc u => insertUnit u acc) acc).Perm (ls ++ acc) := by
    induction ls generalizing acc with
    | nil => rfl
    | cons u ls ih =>
      exact (ih _).trans (((insertUnit_perm u acc).append_left ls).trans List.perm_middle)
  simpa [orderByPrice] using this []

/-- The lines that a MULTIBUY draws from, each with its place. -/
def multibuyLines (g : Nat) (ls : List WLine) : List (WLine × Nat) :=
  ls.zipIdx.filter (fun e => takesPart g e.1 && decide (0 < e.1.freeUnits))

theorem multibuyUnits_perm (g : Nat) (ls : List WLine) :
    (multibuyUnits g ls).Perm
      ((multibuyLines g ls).flatMap (fun e => List.replicate e.1.freeUnits (e.2, e.1.current))) := by
  refine ((orderByPrice_perm _).flatMap_right _).trans (.of_eq ?_)
  rw [List.flatMap_map]
  refine List.flatMap_congr fun e he => ?_
  have hget : ls[e.2]? = some e.1 := List.mem_zipIdx_iff_getElem?.1 (List.mem_filter.1 he).1
  simp [List.getD_eq_getElem?_getD, List.getElem?_map, hget]

/-- Each unit is of a line that takes part, at that line's current price. -/
theorem mem_multibuyUnits (g : Nat) (ls : List WLine) (u : Nat × Nat) (hu : u ∈ multibuyUnits g ls) :
    ∃ l, ls[u.1]? = some l ∧ takesPart g l = true ∧ u.2 = l.current := by
  rw [(multibuyUnits_perm g ls).mem_iff, List.mem_flatMap] at hu
  obtain ⟨e, he, hu⟩ := hu
  obtain ⟨hmem, hp⟩ := List.mem_filter.1 he
  obtain rfl := (List.mem_replicate.1 hu).2
  exact ⟨e.1, List.mem_zipIdx_iff_getElem?.1 hmem, (Bool.and_eq_true_iff.1 hp).1, rfl⟩

/-- A line has no more units among those drawn on than are free. -/
theorem countP_multibuyUnits_le (g i : Nat) (ls : List WLine) (l : WLine) (hl : ls[i]? = some l) :
    (multibuyUnits g ls).countP (fun u => u.1 == i) ≤ l.freeUnits := by
  have hnodup : (multibuyLines g ls).Nodup := (List.Nodup.of_map Prod.snd (by simp [List.nodup_range'])).filter _
  have hcount := List.nodup_iff_count_le_one.1 hnodup (l, i)
  have hunits (e : WLine × Nat) (he : e ∈ multibuyLines g ls) :
      (List.replicate e.1.freeUnits (e.2, e.1.current)).countP (fun u => u.1 == i) =
        if (l, i) = e then e.1.freeUnits else 0 := by
    have hget : ls[e.2]? = some e.1 := List.mem_zipIdx_iff_getElem?.1 (List.mem_filter.1 he).1
    rw [List.countP_replicate]
    refine if_congr ?_ rfl rfl
    constructor
    · intro h
      obtain rfl : e.2 = i := by simpa using h
      exact Prod.ext (Option.some.inj (hl.symm.trans hget)) rfl
    · rintro rfl
      simp
  calc (multibuyUnits g ls).countP (fun u => u.1 == i)
      = ((multibuyLines g ls).map (fun e => if (l, i) = e then e.1.freeUnits else 0)).sum := by
        rw [(multibuyUnits_perm g ls).countP_eq, List.countP_flatMap]
        exact congrArg List.sum (List.map_congr_left hunits)
    _ = (multibuyLines g ls).count (l, i) * l.freeUnits := sum_map_ite_eq_count_mul _ (fun e : WLine × Nat => e.1.freeUnits) _
    _ ≤ 1 * l.freeUnits := Nat.mul_le_mul_right _ hcount
    _ = l.freeUnits := Nat.one_mul _

/-! ### MULTIBUY: its sets -/

/-- The sets are taken from the front of the units. -/
theorem flatten_formSets (k price limit fuel applied : Nat) (units : List (Nat × Nat)) :
    (formSets k price limit fuel applied units).flatten <+: units := by
  induction fuel generalizing applied units with
  | zero => exact ⟨units, rfl⟩
  | succ fuel ih =>
    simp only [formSets]
    split
    · exact ⟨units, rfl⟩
    · obtain ⟨rest, hrest⟩ := ih (applied + 1) (units.drop k)
      exact ⟨rest, by rw [List.flatten_cons, List.append_assoc, hrest, List.take_append_drop]⟩

theorem price_lt_of_mem_formSets (k price limit fuel applied : Nat) (units set : List (Nat × Nat))
    (h : set ∈ formSets k price limit fuel applied units) : price < (set.map (·.2)).sum := by
  induction fuel generalizing applied units with
  | zero => simp [formSets] at h
  | succ fuel ih =>
    simp only [formSets] at h
    split at h
    · simp at h
    · rename_i hn
      rcases List.mem_cons.1 h with rfl | h
      · omega
      · exact ih _ _ h

/-! ### MULTIBUY: the parts of its lines -/

theorem sumAt_cons (i : Nat) (p : Nat × Nat) (ps : List (Nat × Nat)) :
    sumAt i (p :: ps) = (if p.1 = i then p.2 else 0) + sumAt i ps := by
  by_cases h : p.1 = i <;> simp [sumAt, h]

theorem sumAt_append (i : Nat) (ps qs : List (Nat × Nat)) : sumAt i (ps ++ qs) = sumAt i ps + sumAt i qs := by
  simp [sumAt]

/-- The sums of all the places are together the sum of the numbers. -/
theorem sum_sumAt (n : Nat) (ps : List (Nat × Nat)) (h : ∀ p ∈ ps, p.1 < n) :
    ((List.range n).map (fun i => sumAt i ps)).sum = (ps.map (·.2)).sum := by
  induction ps with
  | nil => simp [sumAt]
  | cons p ps ih =>
    rw [List.forall_mem_cons] at h
    have hone : (List.range n).count p.1 = 1 :=
      List.count_eq_one_of_mem List.nodup_range (List.mem_range.2 h.1)
    simp only [sumAt_cons, List.sum_map_add, ih h.2, List.map_cons, List.sum_cons]
    rw [sum_map_ite_eq_count_mul p.1 (fun _ => p.2), hone, Nat.one_mul]

theorem sumAt_zip_le (i : Nat) (set : List (Nat × Nat)) (parts : List Nat)
    (h : List.Forall₂ (· ≤ ·) parts (set.map (·.2))) : sumAt i ((set.map (·.1)).zip parts) ≤ sumAt i set := by
  induction set generalizing parts with
  | nil => simp [sumAt]
  | cons u set ih =>
    obtain ⟨p, ps, hp, hps, rfl⟩ := List.forall₂_cons_right_iff.1 h
    have := ih _ hps
    change p ≤ u.2 at hp
    simp only [List.map_cons, List.zip_cons_cons, sumAt_cons]
    split_ifs <;> omega

/-- The parts of a set fall short of its units' prices, place by place. -/
theorem sumAt_setParts_le (i price : Nat) (set : List (Nat × Nat)) : sumAt i (setParts price set) ≤ sumAt i set :=
  sumAt_zip_le _ _ _ (apportion_le _ _ (Nat.sub_le _ _))

theorem sum_setParts (price : Nat) (set : List (Nat × Nat)) (h : price < (set.map (·.2)).sum) :
    ((setParts price set).map (·.2)).sum = (set.map (·.2)).sum - price := by
  have hlen : (apportion ((set.map (·.2)).sum - price) (set.map (·.2))).length ≤ (set.map (·.1)).length := by simp
  unfold setParts
  rw [List.map_snd_zip hlen, apportion_sum _ _ (by omega)]

theorem mem_setParts_place (price : Nat) (set : List (Nat × Nat)) (p : Nat × Nat) (h : p ∈ setParts price set) :
    ∃ u ∈ set, u.1 = p.1 :=
  List.mem_map.1 (List.of_mem_zip h).1

theorem sumAt_flatMap_setParts_le (i price : Nat) (sets : List (List (Nat × Nat))) :
    sumAt i (sets.flatMap (setParts price)) ≤ sumAt i sets.flatten := by
  induction sets with
  | nil => simp
  | cons set sets ih =>
    have := sumAt_setParts_le i price set
    rw [List.flatMap_cons, List.flatten_cons, sumAt_append, sumAt_append]
    omega

theorem sum_flatMap_setParts (price : Nat) (sets : List (List (Nat × Nat)))
    (h : ∀ set ∈ sets, price < (set.map (·.2)).sum) :
    ((sets.flatMap (setParts price)).map (·.2)).sum = (sets.map (fun set => (set.map (·.2)).sum - price)).sum := by
  induction sets with
  | nil => rfl
  | cons set sets ih =>
    rw [List.forall_mem_cons] at h
    rw [List.flatMap_cons, List.map_append, List.sum_append, List.map_cons, List.sum_cons, sum_setParts _ _ h.1, ih h.2]

/-- The units of one place, all of one price, sum to that price for each. -/
theorem sumAt_eq_countP_mul (i c : Nat) (us : List (Nat × Nat)) (h : ∀ u ∈ us, u.1 = i → u.2 = c) :
    sumAt i us = us.countP (fun u => u.1 == i) * c := by
  induction us with
  | nil => simp [sumAt]
  | cons u us ih =>
    rw [List.forall_mem_cons] at h
    rw [sumAt_cons, List.countP_cons, ih h.2, Nat.add_mul, Nat.add_comm]
    by_cases hu : u.1 = i
    · simp [hu, h.1 hu]
    · simp [hu]

/-- A line of the reading, at its place, consumes the units of its that the sets use and can give its parts of their discounts. -/
theorem consumes_sets (g price i : Nat) (ls : List WLine) (l : WLine) (sets : List (List (Nat × Nat)))
    (hused : sets.flatten <+: multibuyUnits g ls) (hl : ls[i]? = some l) :
    Consumes g l { l with consumedUnits := l.consumedUnits + (sets.flatten.filter (fun u => u.1 == i)).length }
      (sumAt i (sets.flatMap (setParts price))) := by
  have hunit (u : Nat × Nat) (hu : u ∈ sets.flatten) (hi : u.1 = i) : takesPart g l = true ∧ u.2 = l.current := by
    obtain ⟨l', hl', htp, hcur⟩ := mem_multibuyUnits g ls u (hused.subset hu)
    rw [hi, hl, Option.some_inj] at hl'
    exact hl' ▸ ⟨htp, hcur⟩
  rw [← List.countP_eq_length_filter]
  refine consumes_units g l _ _ ?_ ?_ fun hno => ?_
  · exact (hused.sublist.countP_le).trans (countP_multibuyUnits_le g i ls l hl)
  · rw [← sumAt_eq_countP_mul i l.current _ fun u hu hi => (hunit u hu hi).2]
    exact sumAt_flatMap_setParts_le i price sets
  · refine List.countP_eq_zero.2 fun u hu hi => ?_
    simp [(hunit u hu (beq_iff_eq.1 hi)).1] at hno

theorem pricedLaw_multibuy (sc : Scan) (n k size price : Nat) (e : PromoEntry) (h : PricedLaw sc (.visit .c k)) :
    PricedLaw (multibuy sc n e size price) (.visit .c k) := by
  unfold multibuy
  extract_lets units sets shared parts amount used consumed
  split_ifs with hs hr
  · exact h
  · exact h
  have hused : sets.flatten <+: multibuyUnits e.group sc.lines := flatten_formSets _ _ _ _ _ _
  have hplace (p : Nat × Nat) (hp : p ∈ shared) : p.1 < sc.lines.length := by
    obtain ⟨set, hset, hp⟩ := List.mem_flatMap.1 hp
    obtain ⟨u, hu, hup⟩ := mem_setParts_place _ _ _ hp
    obtain ⟨l, hl, -⟩ := mem_multibuyUnits _ _ u (hused.subset (List.mem_flatten.2 ⟨set, hset, hu⟩))
    rw [← hup]
    exact (List.getElem?_eq_some_iff.1 hl).1
  refine pricedLaw_writeAdjustment_c (g := e.group) (line := Prod.fst)
    (upd := fun r => { r.1 with consumedUnits := r.1.consumedUnits + (used.filter (fun u => u.1 == r.2)).length }) _ _ _ _ h
    (List.zipIdx_map_fst 0 _).symm rfl rfl rfl ?_ (by decide) fun r hr => ?_
  · calc (sc.lines.zipIdx.map (fun l => sumAt l.2 shared)).sum
        = ((List.range sc.lines.length).map (fun i => sumAt i shared)).sum := by
          rw [List.range_eq_range', ← List.zipIdx_map_snd 0 sc.lines, List.map_map]; rfl
      _ = (shared.map (·.2)).sum := sum_sumAt _ _ hplace
      _ = amount := sum_flatMap_setParts _ _ fun set hset => price_lt_of_mem_formSets _ _ _ _ _ _ set hset
  · exact consumes_sets _ _ _ _ _ _ hused (List.mem_zipIdx_iff_getElem?.1 hr)

end Sys2Proof.Machine.EvaluationEngine
end

-- ==== The evaluation engine: the stages keep the law ====
section
/-!
PROOF. The entries of stages D and F, the visit, and the stages A, E and F keep the law of the priced basket.
-/

namespace Sys2Proof.Machine.EvaluationEngine

/-! ## Stage D -/

/-- Parts of a stage D discount, shared by weights that stand for participants' nets, keep the law. -/
theorem pricedLaw_writeAdjustment_d (sc : Scan) (e : PromoEntry) (A k : Nat) (entry : Option Nat) (kind : AdjKind)
    (units : Option Nat) (coupon : Option (Nat × Nat)) (hk : kind ≠ .basketDiscount) (h0 : A ≠ 0)
    (hA : A ≤ (basketWeights sc e).sum) (h : PricedLaw sc (.visit .d k)) :
    PricedLaw (writeAdjustment sc entry kind A units coupon (apportion A (basketWeights sc e))) (.visit .d k) := by
  obtain ⟨hbal, hE⟩ := (pricedLaw_visit_d _ _).1 h
  have hw (l : WLine) : (if takesPart e.group l && !(e.skip && alreadyDiscounted sc l) then l.net else 0) ≤
      if l.live then l.net else 0 := by
    by_cases htp : takesPart e.group l = true
    · rw [if_pos ((takesPart_iff _ _).1 htp).1]; split <;> simp
    · simp [htp]
  have hprep := prepared_apportion sc A _ hw h0 hA
  have hparts : apportion A (basketWeights sc e) = (sc.lines.zip (apportion A (basketWeights sc e))).map Prod.snd :=
    (List.map_snd_zip (by simp [basketWeights])).symm
  rw [hparts]
  exact (pricedLaw_visit_d _ _).2 ⟨balanced_writeAdjustment entry kind units coupon hbal hprep hk, hE⟩

theorem pricedLaw_amountOff (sc : Scan) (n k : Nat) (e : PromoEntry) (threshold amount : Nat)
    (h : PricedLaw sc (.visit .d k)) : PricedLaw (amountOff sc n e threshold amount) (.visit .d k) := by
  unfold amountOff
  extract_lets weights spend discount parts
  split_ifs with hs h0 hr
  · exact h
  · exact h
  · exact h
  · exact pricedLaw_writeAdjustment_d _ _ _ _ _ _ _ _ (by decide) h0 (Nat.min_le_right _ _) h

theorem couponValue_le (v : CouponValue) (threshold spend : Nat) (hv : ∀ p, v = .percent p → p ≤ 10000) :
    couponValue v threshold spend ≤ spend := by
  unfold couponValue
  split_ifs
  · exact Nat.zero_le _
  · cases v with
    | amount n => exact Nat.min_le_right _ _
    | percent p => exact halfUp_percent_le _ _ (hv p rfl)

theorem pricedLaw_testCoupon (sc : Scan) (n k : Nat) (e : PromoEntry) (v : CouponValue) (threshold : Nat) (c : WCoupon)
    (hv : ∀ p, v = .percent p → p ≤ 10000) (h : PricedLaw sc (.visit .d k)) :
    PricedLaw (testCoupon n e v threshold sc c) (.visit .d k) := by
  unfold testCoupon
  extract_lets weights value parts written
  split_ifs with h0 hr
  · exact h
  · exact h
  · exact pricedLaw_writeAdjustment_d sc e value k _ _ _ _ (by decide) h0 (couponValue_le _ _ _ hv) h

theorem pricedLaw_couponEntry (sc : Scan) (n k : Nat) (e : PromoEntry) (cls : Nat) (v : CouponValue) (threshold : Nat)
    (hv : ∀ p, v = .percent p → p ≤ 10000) (h : PricedLaw sc (.visit .d k)) :
    PricedLaw (couponEntry sc n e cls v threshold) (.visit .d k) :=
  List.foldlRecOn (motive := fun sc => PricedLaw sc (.visit .d k)) _ _ h
    fun _ hsc c _ => pricedLaw_testCoupon _ n k e v threshold c hv hsc

/-! ## A visit -/

theorem pricedLaw_offerFactor (sc : Scan) (k : Nat) (e : PromoEntry) (factor : Nat) (h : PricedLaw sc (.visit .f k)) :
    PricedLaw (offerFactor sc e factor) (.visit .f k) := by
  refine (pricedLaw_visit_f _ _).2 (balanced_of_map sc _ _ ((pricedLaw_visit_f _ _).1 h) rfl ?_ ?_ ?_ rfl rfl) <;>
    intro l <;> split <;> rfl

/-- An entry that acts in its stage keeps the law. -/
theorem pricedLaw_applyEntry (sc : Scan) (n k : Nat) (e : PromoEntry) (held : Nat → Nat) (hr : rateBounded e)
    (h : PricedLaw sc (.visit e.kind.stage k)) : PricedLaw (applyEntry sc n e held) (.visit e.kind.stage k) := by
  unfold applyEntry
  unfold rateBounded at hr
  cases hk : e.kind <;> simp only [hk, PromoKind.stage] at h hr ⊢
  case quantityBreak m threshold t => exact pricedLaw_quantityBreak _ _ _ _ _ _ _ h
  case multibuy size price => exact pricedLaw_multibuy _ _ _ _ _ _ h
  case allotmentPrice a special => exact pricedLaw_allotmentPrice _ _ _ _ _ _ _ h
  case percentOff rate minimum => exact pricedLaw_percentOff _ _ _ _ _ _ hr h
  case amountOff threshold amount => exact pricedLaw_amountOff _ _ _ _ _ _ h
  case coupon cls v threshold => exact pricedLaw_couponEntry _ _ _ _ _ _ _ (fun p hp => by subst hp; exact hr) h
  case pointsMultiplier factor => exact pricedLaw_offerFactor _ _ _ _ h

theorem stage_of_entryApplies (sc : Scan) (lane : Nat) (st : VisitStage) (e : PromoEntry)
    (h : entryApplies sc lane st e = true) : e.kind.stage = st := by
  simp only [entryApplies, Bool.and_eq_true, beq_iff_eq] at h
  exact h.1.1

theorem pricedLaw_visitEntry (s : State) (sc : Scan) (st : VisitStage) (n : Nat) (h : PricedLaw sc (.visit st n))
    (hr : ∀ e, tableGet n s.ptb.entries = some e → rateBounded e) : PricedLaw (visitEntry s sc st n) (.visit st n) := by
  unfold visitEntry
  split
  · exact h
  · rename_i e he
    split
    · rename_i ha
      obtain rfl := stage_of_entryApplies _ _ _ _ ha
      exact pricedLaw_applyEntry _ _ _ _ _ (hr e he) h
    · exact h

/-! ## Stages A, E and F -/

theorem stageALine_net (l : WLine) (h : l.live = true) : (stageALine l).net = (stageALine l).stageA := by
  simp [stageALine, h]

@[simp] theorem stageALine_live (l : WLine) : (stageALine l).live = l.live := by unfold stageALine; split <;> simp_all

/-- Stage A of a LIVE line with no override, fresh from the reading. -/
theorem stageALine_fresh (l : WLine) (hlive : l.live = true) (hov : (stageALine l).override = none) :
    (stageALine l).net = (stageALine l).extended ∧
    (stageALine l).extended = extendedAmount (stageALine l).measure (stageALine l).base (stageALine l).qty := by
  simp only [stageALine, hlive, if_true] at hov ⊢
  simp [hov, basePrice, discounted]

theorem pricedLaw_stageAScan (sc : Scan) (k : Nat) (ha : sc.adjustments = []) (h0 : sc.stageE = 0)
    (hl : ∀ l ∈ sc.lines, l.tier = none ∧ l.consumedUnits = 0 ∧ l.consumedFlag = false) :
    PricedLaw (stageAScan sc) (.visit .b k) := by
  have hfresh (l : WLine) (hmem : l ∈ sc.lines) : (stageALine l).tier = none ∧ (stageALine l).consumedUnits = 0 ∧
      (stageALine l).consumedFlag = false := by
    unfold stageALine; split <;> exact hl l hmem
  have hsum : (stageAScan sc).net = (stageAScan sc).stageASum := by
    simp only [Scan.net, Scan.stageASum, lineSum, stageAScan, List.map_map]
    refine congrArg List.sum (List.map_congr_left fun l _ => ?_)
    by_cases h : l.live = true
    · simp [h, stageALine_net l h]
    · simp [h]
  have hpromo : (stageAScan sc).promotionDiscount = 0 := by simp [Scan.promotionDiscount, stageAScan, ha]
  have hE : (stageAScan sc).stageE = 0 := h0
  refine (pricedLaw_visit_b _ _).2 ⟨⟨by rw [hsum, hpromo, hE]; rfl, ?_⟩, hE, ?_, ?_⟩
  all_goals
    simp only [stageAScan, List.forall_mem_map]
    intro l hmem hlive
    rw [stageALine_live] at hlive
    obtain ⟨htier, hu, hf⟩ := hfresh l hmem
  · exact (stageALine_net l hlive).le
  · intro hov
    obtain ⟨hn, he⟩ := stageALine_fresh l hlive hov
    by_cases hm : (stageALine l).measure = .each
    · rw [valueLeft_each _ hm, hu, hn, he, hm, current_eq, unitPrice, htier]
      exact (Nat.mul_comm _ _).le
    · simp [valueLeft, hm, hf, hn]
  · intro hov _
    obtain ⟨hn, he⟩ := stageALine_fresh l hlive hov
    exact ⟨hn, he, hu, hf⟩

theorem stageEScan_balanced (sc : Scan) (h : PricedLaw sc .e) : Balanced (stageEScan sc) := by
  obtain ⟨hbal, hE⟩ := (pricedLaw_e _).1 h
  unfold stageEScan
  split
  · exact hbal
  · rename_i amount _
    extract_lets weights limited parts
    split_ifs with h0 hr
    · exact hbal
    · exact hbal
    · have hprep := prepared_apportion sc limited (fun l => if l.live then l.net else 0) (fun _ => le_rfl) h0
        (Nat.min_le_right _ _)
      have hparts : parts = (sc.lines.zip parts).map Prod.snd := (List.map_snd_zip (by simp [parts, weights])).symm
      have hdiscount := balanced_basketDiscount none none none hbal hE hprep
      rwa [← hparts] at hdiscount

theorem stageFScan_balanced (rates : List Nat) (sc : Scan) (h : Balanced sc) : Balanced (stageFScan rates sc) := by
  unfold stageFScan
  split <;> exact balanced_of_map sc _ _ h rfl (fun _ => rfl) (fun _ => rfl) (fun _ => rfl) rfl rfl

end Sys2Proof.Machine.EvaluationEngine
end

-- ==== The evaluation engine: stages A, E and F ====
section
/-!
PROOF. What the steps of stages A, E and F leave, in the words of the claim, and that claim (O39).
-/

namespace Sys2Proof.Machine.EvaluationEngine

/-! ## The steps, in the words of the claims -/

section
variable {s : State} {sc : Scan} (hr : s.inReset = false) (hsc : s.eve.scan = some sc)
include hr hsc

theorem exec_stageA (hp : s.eve.position = .a) :
    exec .stageA s = .next (s.advance (stageAScan sc) (.visit .b sc.first)) := by
  change execStageA s = _
  simp [execStageA, whenRunning, onScan, hr, hsc, hp]

theorem exec_entryVisit {st : VisitStage} {n : Nat} (hp : s.eve.position = .visit st n) :
    exec .entryVisit s = .next (s.advance (visitEntry s sc st n) (nextPosition st n sc)) := by
  change execEntryVisit s = _
  simp [execEntryVisit, whenRunning, hr, hsc, hp]

theorem exec_stageE (hp : s.eve.position = .e) :
    exec .stageE s = .next (s.advance (stageEScan sc) (afterStageE sc)) := by
  change execStageE s = _
  simp [execStageE, whenRunning, onScan, hr, hsc, hp]

theorem exec_stageFPoints (hp : s.eve.position = .f) :
    exec .stageFPoints s = .next (s.advance (stageFScan s.tierRates sc) .g) := by
  change execStageFPoints s = _
  simp [execStageFPoints, whenRunning, onScan, hr, hsc, hp]

end

theorem hasRoom_iff (sc : Scan) (parts : List Nat) : hasRoom sc parts = true ↔ RoomFor sc parts := by
  simp only [hasRoom, Bool.and_eq_true, decide_eq_true_eq, List.all_eq_true, Bool.or_eq_true, beq_iff_eq,
    or_iff_not_imp_left]
  rfl

theorem writeAdjustment_eq_adjusted (sc : Scan) (entry : Option Nat) (kind : AdjKind) (amount : Nat) (units : Option Nat)
    (coupon : Option (Nat × Nat)) (parts : List Nat) :
    writeAdjustment sc entry kind amount units coupon parts = adjusted sc entry kind amount units coupon parts := by
  have hlines (i : Nat) : List.zipWith (addShare i) parts sc.lines = (sc.lines.zip parts).map (fun e =>
      if e.2 = 0 then e.1 else { e.1 with shares := e.1.shares ++ [(i, e.2)], net := e.1.net - e.2 }) := by
    rw [List.zipWith_comm, List.zip, List.map_zipWith]
    rfl
  simp only [writeAdjustment, adjusted, hlines]

theorem afterStageE_eq (sc : Scan) : afterStageE sc = if sc.member = none then .f else .visit .f sc.first := by
  cases h : sc.member <;> simp [afterStageE, h]

theorem extendedAmount_eq (m : Measure) (b q : Nat) :
    extendedAmount m b q = if m = .each then b * q else (b * q + 500) / 1000 := by
  cases m <;> rfl

/-- The nets of the LIVE lines, which share the basket discount (R56, R78). -/
def liveNets (sc : Scan) : List Nat := sc.lines.map (fun l => if l.live then l.net else 0)

/-- Stage E with no discount to take. -/
theorem stageEScan_idle (sc : Scan) (h : sc.discount = none ∨ sc.discount = some 0 ∨
    (liveNets sc).sum = 0) : stageEScan sc = sc := by
  unfold stageEScan
  split
  · rfl
  · rename_i amount ha
    have : min amount (liveNets sc).sum = 0 := by
      rcases h with h | h | h
      · rw [h] at ha; cases ha
      · rw [h] at ha; cases ha; exact Nat.zero_min _
      · rw [h]; exact Nat.min_zero _
    simp only [liveNets] at this
    simp [this]

/-- Stage E with a discount to take, and a net to take it from. -/
theorem stageEScan_discount (sc : Scan) (d : Nat) (hd : sc.discount = some d) (h0 : 0 < d)
    (hw : 0 < (liveNets sc).sum) :
    let weights := liveNets sc
    let amount := min d weights.sum
    (RoomFor sc (apportion amount weights) → stageEScan sc =
      { adjusted sc none .basketDiscount amount none none (apportion amount weights) with stageE := amount }) ∧
    (¬ RoomFor sc (apportion amount weights) → stageEScan sc = { sc with truncated := true }) := by
  intro weights amount
  have hne : amount ≠ 0 := (lt_min h0 hw).ne'
  have hscan : stageEScan sc = if !hasRoom sc (apportion amount weights) then truncate sc
      else { writeAdjustment sc none .basketDiscount amount none none (apportion amount weights) with stageE := amount } := by
    simp only [stageEScan, hd]
    exact if_neg hne
  rw [hscan, ← hasRoom_iff, writeAdjustment_eq_adjusted]
  exact ⟨fun h => by simp [h], fun h => by simp [h, truncate]⟩

theorem tierRates_eq (s : State) : s.tierRates = (s.ptb.header.map (·.rates)).getD [] := by
  unfold State.tierRates
  cases s.ptb.header <;> rfl

theorem linePoints_eq (r : Nat) (l : WLine) : linePoints r l =
    if l.live = true ∧ l.eligible = true then l.net * r * (if l.override = none then l.factor else 1) / 100 else 0 := by
  have hov : (if l.overridden = true then 1 else l.factor) = if l.override = none then l.factor else 1 := by
    cases h : l.override <;> simp [WLine.overridden, h]
  simp [linePoints, hov]

/-- Settles O39: each stage's record from its lemma, and the law at each step from that step's own. -/
theorem stagesAEAndFWorkOnTheLines : Obligations.StagesAEAndFWorkOnTheLines := by
  intro sc s hr hsc goTo weights rate earned priceOf extendedOf staged afterE LawAfter
  have hafter : afterStageE sc = afterE := afterStageE_eq sc
  refine ⟨fun hp => ?_, fun hp => ⟨fun h => ?_, fun d hd h0 hw => ⟨fun hroom => ?_, fun hroom => ?_⟩⟩,
    fun hp => ⟨fun hm => ?_, fun m hm => ?_⟩, fun hp ha h0 hl => ?_, fun st n hp hlaw hb => ?_, fun hp hlaw => ?_,
    fun hp hlaw => ?_⟩
  · rw [exec_stageA hr hsc hp]
    have hext (l : WLine) : extendedAmount l.measure (basePrice l.price l.override) l.qty = extendedOf l :=
      extendedAmount_eq _ _ _
    have hline (l : WLine) : stageALine l = if l.live then
        { l with base := priceOf l, extended := extendedOf l, stageA := staged l, net := staged l } else l := by
      simp only [stageALine, hext]
      rfl
    rw [stageAScan, List.map_congr_left fun l _ => hline l]
    rfl
  · rw [exec_stageE hr hsc hp, stageEScan_idle sc h, hafter]
    rfl
  · rw [exec_stageE hr hsc hp, (stageEScan_discount sc d hd h0 hw).1 hroom, hafter]
    rfl
  · rw [exec_stageE hr hsc hp, (stageEScan_discount sc d hd h0 hw).2 hroom, hafter]
    rfl
  · rw [exec_stageFPoints hr hsc hp]
    simp only [stageFScan, hm]
    rfl
  · rw [exec_stageFPoints hr hsc hp]
    simp only [stageFScan, hm, tierRates_eq, linePoints_eq, List.map_map]
    rfl
  · exact ⟨_, _, exec_stageA hr hsc hp, rfl, pricedLaw_stageAScan sc _ ha h0 hl⟩
  · exact ⟨_, _, exec_entryVisit hr hsc hp, rfl, pricedLaw_nextPosition _ _ _ _ (pricedLaw_visitEntry _ _ _ _ hlaw hb)⟩
  · refine ⟨_, _, exec_stageE hr hsc hp, rfl, ?_⟩
    change PricedLaw (stageEScan sc) (afterStageE sc)
    rw [afterStageE_eq]
    split
    · exact (pricedLaw_f _).2 (stageEScan_balanced sc hlaw)
    · exact (pricedLaw_visit_f _ _).2 (stageEScan_balanced sc hlaw)
  · exact ⟨_, _, exec_stageFPoints hr hsc hp, rfl, (pricedLaw_g _).2 (stageFScan_balanced _ _ ((pricedLaw_f _).1 hlaw))⟩

end Sys2Proof.Machine.EvaluationEngine
end

-- ==== The evaluation engine: each participant's share of an apportionment ====
section
/-!
PROOF. One share of an apportionment at a time (R69): the base part, and one unit more for a participant whose place in the order of the
leftover units is before their number.
-/

namespace Sys2Proof.Machine.EvaluationEngine

/-! ## The order of the leftover units, read from the places -/

/-- Of two participants, the one with the smaller place comes before the other (R69, step 4). -/
theorem comesBefore_of_leftoverRank_lt (rems : List Nat) (x y : Nat × Nat) (hy : y ∈ rems.zipIdx)
    (h : leftoverRank rems x.2 x.1 < leftoverRank rems y.2 y.1) : comesBefore x y = true := by
  by_contra hxy
  have hne : x ≠ y := fun he => h.ne (by rw [he])
  have hyx : comesBefore y x = true := by
    rw [comesBefore_iff] at *
    rw [Ne, Prod.ext_iff] at hne
    omega
  exact (leftoverRank_lt_of_comesBefore rems y x hy hyx).not_gt h

/-- The remainder of a participant stands in the order of the leftover units with the participant's place. -/
theorem mem_zipIdx_remainders (A : Nat) (ws : List Nat) (i : Nat) (hi : i < ws.length) :
    (A * ws[i] % ws.sum, i) ∈ (remainders A ws).zipIdx := by
  simp [List.mk_mem_zipIdx_iff_getElem?, remainders, hi]

/-! ## The share of one participant -/

theorem apportion_getElem (A : Nat) (ws : List Nat) (h : ws.sum ≠ 0) (i : Nat) (hi : i < ws.length)
    (hp : i < (apportion A ws).length) : (apportion A ws)[i] = partOf A ws (ws[i], i) := by
  simp [apportion_eq_map A ws h]

theorem apportion_getElem_le (A : Nat) (ws : List Nat) (hA : A ≤ ws.sum) (i : Nat) (hi : i < ws.length)
    (hp : i < (apportion A ws).length) : (apportion A ws)[i] ≤ ws[i] :=
  (apportion_le A ws hA).get hp hi

theorem eq_zero_of_mem_apportion (A : Nat) (ws : List Nat) (h : ws.sum = 0) : ∀ x ∈ apportion A ws, x = 0 := by
  simp [apportion, h]

/-- A participant gets a leftover unit exactly when its place is before their number (R69, step 4). -/
theorem partOf_eq_base_add_one_iff (A : Nat) (ws : List Nat) (e : Nat × Nat) :
    partOf A ws e = A * e.1 / ws.sum + 1 ↔
      leftoverRank (remainders A ws) e.2 (A * e.1 % ws.sum) < leftover A ws := by
  simp [partOf]

theorem partOf_eq_base_iff (A : Nat) (ws : List Nat) (e : Nat × Nat) :
    partOf A ws e = A * e.1 / ws.sum ↔
      leftover A ws ≤ leftoverRank (remainders A ws) e.2 (A * e.1 % ws.sum) := by
  simp [partOf]

theorem partOf_eq_base_or_base_add_one (A : Nat) (ws : List Nat) (e : Nat × Nat) :
    A * e.1 / ws.sum = partOf A ws e ∨ A * e.1 / ws.sum + 1 = partOf A ws e := by
  rw [eq_comm, partOf_eq_base_iff, eq_comm, partOf_eq_base_add_one_iff]
  exact le_or_gt _ _

/-- A participant that gets a leftover unit is of larger remainder than one that gets none, or earlier among equal ones. -/
theorem remainder_lt_or_earlier (A : Nat) (ws : List Nat) (i j : Nat) (hi : i < ws.length) (hj : j < ws.length)
    (hmore : partOf A ws (ws[i], i) = A * ws[i] / ws.sum + 1) (hbase : partOf A ws (ws[j], j) = A * ws[j] / ws.sum) :
    A * ws[j] % ws.sum < A * ws[i] % ws.sum ∨ (A * ws[j] % ws.sum = A * ws[i] % ws.sum ∧ i < j) := by
  have hplaces := ((partOf_eq_base_add_one_iff A ws _).1 hmore).trans_le ((partOf_eq_base_iff A ws _).1 hbase)
  have hbefore := comesBefore_of_leftoverRank_lt _ (_, i) (_, j) (mem_zipIdx_remainders A ws j hj) hplaces
  rwa [comesBefore_iff, eq_comm (a := A * ws[i] % ws.sum)] at hbefore

/-- Settles O42: the sum and the bound of the shares as they stand for the whole list, the floor and the order from each one's part. -/
theorem apportionmentSharesTheWholeAmount : Obligations.ApportionmentSharesTheWholeAmount := by
  intro A ws
  refine ⟨apportion_length A ws, eq_zero_of_mem_apportion A ws, fun hpos hA => ⟨apportion_sum A ws hpos.ne', ?_⟩⟩
  intro i hi hp
  have hpart := apportion_getElem A ws hpos.ne' i hi hp
  have hle := apportion_getElem_le A ws hA i hi hp
  refine ⟨hle, ?floorOrOneMore, fun hzero => Nat.le_zero.1 (hzero ▸ hle), fun j hj hq hmore hbase => ?order⟩
  case floorOrOneMore =>
    rw [hpart]
    exact partOf_eq_base_or_base_add_one A ws (ws[i], i)
  case order =>
    rw [hpart] at hmore
    rw [apportion_getElem A ws hpos.ne' j hj hq] at hbase
    exact remainder_lt_or_earlier A ws i j hi hj hmore hbase

end Sys2Proof.Machine.EvaluationEngine
end

-- ==== Coupons and loyalty members: a request on the open basket ====
section
/-!
PROOF. A request that concerns the contents of the active basket, once (R20, R24, R104, R105, R110 to R112): on a TRADING basket it is
either refused, and the link alone changes, or it changes the basket once. Claims about one such request say which of its rule's branches
is taken, and cite these.
-/

namespace Sys2Proof.Machine.CouponsAndMembers

theorem onOpen_trading (k : Fin 4 → Basket → Answer) {s : State} {i : Fin 4} {b : Basket} (ha : IsActive s i b)
    (hb : b.state = .trading) : onOpen k s = k i b := by
  simp [onOpen, onActive_some _ _ _ _ ha, hb]

/-- A request for an open basket that passes the first checks is answered by its rule on that basket. -/
theorem exec_open {h : Hdr} {c : Instr} {s : State} {i : Fin 4} {b : Basket} {owner : State → Answer}
    {rule : Fin 4 → Basket → Answer} {n : Nat} (ht : Taken h c s) (hs : Serving s) (ha : IsActive s i b)
    (hb : b.state = .trading) (hwf : c.wellFormed = headerOk h n) (hexec : exec c s = takeRequest h c trading owner s)
    (howner : owner (taken s h) = onOpen rule (taken s h)) :
    exec c s = .next ((rule i b).settle h.tag (taken s h)).sawLoss := by
  obtain ⟨_, _, _, hok⟩ := id ht
  have hl := headerOk_length h n (hwf ▸ hok)
  rw [hexec, takeRequest_taken h c trading owner s ht hl (by simp [trading, hs.1]) fun _ => hs.2, howner,
    onOpen_trading rule ha.taken hb]

section
variable {h : Hdr} {c : Instr} {s : State} {a : Answer}
  (hexec : exec c s = .next (a.settle h.tag (taken s h)).sawLoss)
include hexec

theorem exec_of_refused (r : Reply) (hr : a = .refused r) :
    exec c s = .next { s with tlp := answeredLink s h r.status r.detail r.body } := by
  rw [hexec, hr, settle_refused, sawLoss_answered]

theorem exec_of_changed {i : Fin 4} {b b' : Basket} {f : Basket → Basket} {body : Body} (ha : IsActive s i b)
    (hc : a = .answered ((taken s h).changeBasket i f) (okReply body)) (hf : f b = b') (hb' : b'.state = .trading) :
    exec c s = .next (afterChange s i b' (answeredLink s h .ok .none body)) := by
  subst hf
  rw [hexec, hc, changeBasket_eq _ i b f ha.taken (by simp [hb', BasketState.scanned]) (by simp [hb'])]
  rfl

end

end Sys2Proof.Machine.CouponsAndMembers
end

-- ==== Coupons and loyalty members: the member context ====
section
/-!
PROOF. SET_MEMBER, CLEAR_MEMBER and REDEEM_POINTS (O31): each clause of the claim is one branch of the request's rule.
-/

namespace Sys2Proof.Machine.CouponsAndMembers

theorem outside_iff (n lo hi : Nat) : outside n lo hi = true ↔ ¬ (lo ≤ n ∧ n ≤ hi) := by
  simp only [outside, Bool.or_eq_true, decide_eq_true_eq]
  omega

/-- The range check of SET_MEMBER, in the words of the claim (R110). -/
theorem memberOutOfRange_iff (m tier balance : Nat) :
    (outside m 1 999999999999 ∨ 3 < tier ∨ Config.maxPoints < balance) ↔
      ¬ (1 ≤ m ∧ m ≤ 999999999999 ∧ tier ≤ 3 ∧ balance ≤ 9999999) := by
  rw [outside_iff, Config.maxPoints]
  omega

/-- Settles O31: the branches of the three rules. -/
theorem memberRequestsSetTheContext : Obligations.MemberRequestsSetTheContext := by
  intro h i b s hs ha hb link noMember
  refine ⟨fun m tier balance ht => ?setMember, fun ht => ?clearMember, fun p ht => ?redeemPoints⟩
  case setMember =>
    have hexec := exec_open ht hs ha hb rfl rfl rfl
    have hrange := memberOutOfRange_iff m.toNat tier.toNat balance.toNat
    exact ⟨fun hin => exec_of_changed hexec ha (if_neg fun hout => hrange.1 hout hin) rfl hb,
      fun hout => exec_of_refused hexec (refusal .range) (if_pos (hrange.2 hout))⟩
  case clearMember =>
    have hexec := exec_open ht hs ha hb rfl rfl rfl
    exact ⟨fun hm => exec_of_refused hexec (refusalNamed .basketState .noMember) (by simp [hm]),
      fun hm => exec_of_changed hexec ha (if_neg (by simpa using hm)) rfl hb⟩
  case redeemPoints =>
    have hexec := exec_open ht hs ha hb rfl rfl rfl
    refine ⟨fun hm => ?_, fun hm hp => ?_, fun hm hp => ?_⟩
    · exact exec_of_refused hexec (refusalNamed .basketState .noMember) (by simp [hm])
    · exact exec_of_refused hexec (refusal .range) ((if_neg (by simpa using hm)).trans (if_pos hp))
    · exact exec_of_changed hexec ha ((if_neg (by simpa using hm)).trans (if_neg hp.not_gt)) rfl hb

end Sys2Proof.Machine.CouponsAndMembers
end

-- ==== Coupons and loyalty members: the coupon list ====
section
/-!
PROOF. PRESENT_COUPON and WITHDRAW_COUPON (O30). The coupon that WITHDRAW_COUPON names is found from the end its serial says, and the law
of the lists makes it the only record of its identity, so that closing the list up takes that one away.
-/

namespace Sys2Proof.Machine.CouponsAndMembers

/-! ## The coupon that is named -/

/-- Plain or not, a coupon is looked for by its class and serial; a plain one from the end of the list (R105). -/
theorem namedCoupon_eq (cs : List Coupon) (cls n : Nat) : namedCoupon cs cls n =
    (if n = 0 then cs.reverse else cs).find? (fun c => c.cls == cls && c.serial == n) := by
  unfold namedCoupon
  split
  · subst n; rfl
  · rfl

theorem namedCoupon_eq_none {cs : List Coupon} {cls n : Nat} (h : ∀ k ∈ cs, ¬ (k.cls = cls ∧ k.serial = n)) :
    namedCoupon cs cls n = none := by
  rw [namedCoupon_eq, List.find?_eq_none]
  split <;> simpa using h

/-- The coupon named is the first of its class and serial, and the last of its class when it is plain (R105). -/
theorem namedCoupon_eq_some {before after : List Coupon} {k : Coupon} {cls n : Nat} (hk : k.cls = cls ∧ k.serial = n)
    (hfirst : n ≠ 0 → ∀ x ∈ before, ¬ (x.cls = cls ∧ x.serial = n))
    (hlast : n = 0 → ∀ x ∈ after, ¬ (x.cls = cls ∧ x.serial = n)) :
    namedCoupon (before ++ k :: after) cls n = some k := by
  rw [namedCoupon_eq]
  split
  case isTrue hplain =>
    rw [List.reverse_append, List.reverse_cons, List.append_assoc, List.singleton_append]
    exact List.find?_eq_some_iff_append.2 ⟨by simpa using hk, after.reverse, before.reverse, rfl,
      by simpa [or_iff_not_imp_left] using hlast hplain⟩
  case isFalse hserial =>
    exact List.find?_eq_some_iff_append.2 ⟨by simpa using hk, before, after, rfl,
      by simpa [or_iff_not_imp_left] using hfirst hserial⟩

/-! ## Closing the list up -/

theorem allDistinct_iff_nodup {α : Type} [BEq α] [LawfulBEq α] (l : List α) : allDistinct l = true ↔ l.Nodup := by
  induction l with
  | nil => simp [allDistinct]
  | cons a l ih => simp [allDistinct, ih]

theorem nodup_couponIds {b : Basket} (hlaw : b.listsLaw = true) : (b.coupons.map (·.id)).Nodup := by
  simp only [Basket.listsLaw, Bool.and_eq_true] at hlaw
  obtain ⟨⟨_, hdistinct⟩, _⟩ := hlaw
  exact (allDistinct_iff_nodup _).1 hdistinct

/-- The record that goes is the only one of its identity, so the others keep their order (R102, R105). -/
theorem dropCoupon_eq {b : Basket} {before after : List Coupon} {k : Coupon} (hlaw : b.listsLaw = true)
    (hcs : b.coupons = before ++ k :: after) : dropCoupon k.id b = { b with coupons := before ++ after } := by
  have hids := nodup_couponIds hlaw
  rw [hcs, List.map_append, List.map_cons, List.nodup_middle, List.nodup_cons, ← List.map_append] at hids
  have hother : ∀ c ∈ before ++ after, (c.id != k.id) = true := fun c hc =>
    bne_iff_ne.2 fun hid => hids.1 (hid ▸ List.mem_map_of_mem hc)
  rw [List.forall_mem_append] at hother
  rw [dropCoupon, hcs, List.filter_append, List.filter_cons_of_neg (by simp), List.filter_eq_self.2 hother.1,
    List.filter_eq_self.2 hother.2]

/-! ## The claim -/

/-- Settles O30: the branches of the two rules, with the list that each leaves. -/
theorem couponsArePresentedAndWithdrawn : Obligations.CouponsArePresentedAndWithdrawn := by
  intro h cls serial i b s hs ha hb n named inBasket redeemed
  refine ⟨fun ht => ?present, fun ht hlaw => ?withdraw⟩
  case present =>
    have hexec := exec_open ht hs ha hb rfl rfl rfl
    have hzero : cls.toNat = 0 ↔ cls = 0 := (BitVec.toNat_eq (y := 0)).symm
    have hin : (n ≠ 0 ∧ (b.coupons.any fun k => k.cls == cls.toNat && k.serial == n) = true) ↔ inBasket :=
      and_congr_right fun _ => by simp [named]
    have hred : (n ≠ 0 ∧ s.pst.serials.contains (cls.toNat, n) = true) ↔ redeemed :=
      and_congr_right fun _ => List.contains_iff_mem
    refine ⟨fun hc => ?_, fun hc hi => ?_, fun hc hi hr => ?_, fun hc hi hr hfull => ?_, fun hc hi hr hroom => ?_⟩
    · exact exec_of_refused hexec (refusal .range) (if_pos (hzero.2 hc))
    · exact exec_of_refused hexec (refusalNamed .duplicate .inBasket)
        ((if_neg (hzero.not.2 hc)).trans (if_pos (hin.2 hi)))
    · exact exec_of_refused hexec (refusalNamed .duplicate .redeemedSerial)
        ((if_neg (hzero.not.2 hc)).trans ((if_neg (hin.not.2 hi)).trans (if_pos (hred.2 hr))))
    · exact exec_of_refused hexec (refusal .limit)
        ((if_neg (hzero.not.2 hc)).trans ((if_neg (hin.not.2 hi)).trans ((if_neg (hred.not.2 hr)).trans (if_pos hfull))))
    · exact exec_of_changed hexec ha
        ((if_neg (hzero.not.2 hc)).trans
          ((if_neg (hin.not.2 hi)).trans ((if_neg (hred.not.2 hr)).trans (if_neg hroom.not_ge)))) rfl hb
  case withdraw =>
    have hexec := exec_open ht hs ha hb rfl rfl rfl
    refine ⟨fun hnone => ?_, fun before k after hcs hk hfirst hlast => ?_⟩
    · exact exec_of_refused hexec (refusalNamed .lineState .noCoupon) (by rw [namedCoupon_eq_none hnone])
    · have hfound : namedCoupon b.coupons cls.toNat n = some k := hcs ▸ namedCoupon_eq_some hk hfirst hlast
      rw [hfound] at hexec
      refine ⟨fun hst => ?_, fun hst => ?_⟩
      · exact exec_of_refused hexec (refusalNamed .lineState .couponRefused) (if_pos hst)
      · have hdropped := exec_of_changed hexec ha (if_neg hst) rfl hb
        rwa [dropCoupon_eq hlaw hcs] at hdropped

end Sys2Proof.Machine.CouponsAndMembers
end

-- ==== Shared claims: PURGE_STATION ====
section
/-!
PROOF. PURGE_STATION (O38): the first checks of a request, from the needs of its rule once and for all (R185); then the outcomes of the
request's own rule, which cite the conditions of that rule in the words of the claim (R152).
-/

namespace Sys2Proof.Machine.SharedClaims

/-! ## The first checks -/

/-- A request that goes through `takeRequest` passes the checks common to all requests in the order of R185, for the day states and the
operator that it needs. -/
theorem firstChecks_of_takeRequest {h : Hdr} {c : Instr} {s : State} {needs : Needs} {owner : State → Answer}
    {days : List DayState} (hexec : exec c s = takeRequest h c needs owner s) (ho : Offered h s)
    (hdays : needs.days s.stc.day = true ↔ s.stc.day ∈ days) : FirstChecks h c days needs.operator s := by
  obtain ⟨hrun, hready, htag, hlen⟩ := ho
  have hrefused (r : Reply) (hr : commonRefusal h c needs s = some r) :
      exec c s = .next { s with tlp := answeredLink s h r.status r.detail r.body } := by
    rw [hexec, takeRequest_offered h c needs owner s hrun hready hlen, hr]
    rfl
  refine ⟨fun hwf => ?malformed, fun hwf hday => ?notReady, fun hwf hday hop hnone => ?noOperator⟩
  case malformed =>
    exact hrefused (refusal .badRequest) (by simp [commonRefusal, htag, show wellFormedRecord c = false from hwf])
  case notReady =>
    have hout : needs.days s.stc.day = false := Bool.eq_false_iff.2 (hdays.not.2 hday)
    exact hrefused (refusal .notReady) (by simp [commonRefusal, htag, show wellFormedRecord c = true from hwf, hout])
  case noOperator =>
    have hin : needs.days s.stc.day = true := hdays.2 hday
    exact hrefused (refusal .noOperator)
      (by simp [commonRefusal, htag, show wellFormedRecord c = true from hwf, hin, hop, hnone])

/-! ## The conditions of the rule -/

theorem stationInRange_iff (t : Nat) : stationInRange t = true ↔ 1 ≤ t ∧ t ≤ 32 := by
  simp [stationInRange]

theorem cannotSend_iff (s : State) :
    s.cannotSend = true ↔ (∃ ms, s.lbp.bus = some (.faulted ms)) ∨ s.pst.conflict = true := by
  rw [State.cannotSend, Bool.or_eq_true, or_comm]
  split
  case h_1 ms hbus => simp [hbus]
  case h_2 hbus => simpa using fun ms hms => (hbus ms hms).elim

theorem queueRoom_eq_zero_iff (s : State) : s.queueRoom = 0 ↔ 16 ≤ s.cle.queue.length := by
  rw [State.queueRoom, Config.maxQueue]
  omega

/-! ## The claim -/

/-- The rule of PURGE_STATION, once the first checks have passed (R152). -/
def purgeRule (h : Hdr) (target : Byte) (s : State) : Answer :=
  if 1 < s.atc.lal.getD 0 then .refused (refusalNamed .authority .level)
  else if !stationInRange target.toNat then .refused (refusal .range)
  else if s.cannotSend then .refused (refusal .laneDown)
  else if s.queueRoom = 0 then .refused (refusal .limit)
  else .deferred (s.enqueue (.purge target.toNat h.tag))

theorem onTheBus_days_iff (d : DayState) : onTheBus.days d = true ↔ d ∈ [DayState.joining, .trading] := by
  simp [onTheBus]

theorem execPurge_taken {h : Hdr} {target : Byte} {s : State} (ht : Taken h (.purgeStation h target) s)
    (hday : s.stc.day = .joining ∨ s.stc.day = .trading) (hop : s.atc.operator ≠ none) :
    exec (.purgeStation h target) s =
      .next ((purgeRule h target (taken s h)).settle h.tag (taken s h)).sawLoss :=
  takeRequest_taken h _ _ (purgeRule h target) s ht (headerOk_length h 1 ht.2.2.2)
    ((onTheBus_days_iff _).2 (by simpa using hday)) fun _ => hop

/-- Settles O38: the first checks, and the branches of the rule in their order. -/
theorem purgeStationEntersARecord : Obligations.PurgeStationEntersARecord := by
  intro h target s ho
  refine ⟨firstChecks_of_takeRequest (owner := purgeRule h target) rfl ho (onTheBus_days_iff _), fun l ht hday hop hlal => ?_⟩
  have hlevel : (taken s h).atc.lal.getD 0 = l := by simp [taken, hlal]
  have hrange := stationInRange_iff target.toNat
  have hsend := cannotSend_iff (taken s h)
  have hroom := queueRoom_eq_zero_iff (taken s h)
  rw [execPurge_taken ht hday hop, purgeRule, hlevel]
  refine ⟨fun hl => ?level, fun hl hout => ?range, fun hl hin hdown => ?laneDown, fun hl hin hbus hconflict => ?sent⟩
  case level => rw [if_pos hl]; rfl
  case range => rw [if_neg hl.not_gt, if_pos (by simp [Bool.eq_false_iff.2 (hrange.not.2 hout)])]; rfl
  case laneDown =>
    rw [if_neg hl.not_gt, if_neg (by simp [hrange.2 hin]), if_pos (hsend.2 hdown)]; rfl
  case sent =>
    have hup : ¬ (taken s h).cannotSend = true := fun hdown =>
      (hsend.1 hdown).elim (fun ⟨ms, hms⟩ => hbus ms hms) (fun hc => Bool.false_ne_true (hconflict.symm.trans hc))
    rw [if_neg hl.not_gt, if_neg (by simp [hrange.2 hin]), if_neg hup]
    refine ⟨fun hfull => ?_, fun hfree => ?_⟩
    · rw [if_pos (hroom.2 hfull)]; rfl
    · rw [if_neg (hroom.not.2 hfree.not_ge)]; rfl

end Sys2Proof.Machine.SharedClaims
end

-- ==== Shared claims: an event that writes one basket ====
section
/-!
PROOF. What the end of an event comes to when the event wrote no basket, and when it wrote one (R12, R24, R46).
-/

namespace Sys2Proof.Machine.SharedClaims

/-- The active slot depends only on which slots are active. -/
theorem active_set_of_slotActive {b : Slots} {i : Fin 4} {v : Option Basket} (hv : slotActive v = slotActive (b.get i)) :
    (b.set i v).active = b.active := by
  have hsame : (fun j => slotActive ((b.set i v).get j)) = fun j => slotActive (b.get j) := by
    funext j
    rw [Slots.get_set]
    split
    case isTrue hj => rw [hv, hj]
    case isFalse => rfl
  rw [Slots.active, Slots.active, hsame]

theorem raisedBasket_parked_iff (b : Basket) : (raisedBasket b).state = .parked ↔ b.state = .parked := by
  unfold raisedBasket
  dsimp only
  split
  case h_1 tag hf4 => simp [hf4]
  case h_2 => rfl

theorem raisedBasket_scanned (b : Basket) : (raisedBasket b).state.scanned = b.state.scanned := by
  unfold raisedBasket
  dsimp only
  split
  case h_1 tag hf4 => rw [hf4]; rfl
  case h_2 => rfl

theorem slotActive_congr {b c : Basket} (h : b.state = .parked ↔ c.state = .parked) :
    slotActive (some b) = slotActive (some c) := by
  rw [Bool.eq_iff_iff]
  simp [slotActive, h]

theorem scanned_eq_false_iff {st : BasketState} (h : st ≠ .parked) : st.scanned = false ↔ st = .settled := by
  cases st <;> simp_all [BasketState.scanned]

/-- A basket written and raised by one event, which keeps its state but for F4 (R12, R24). -/
theorem raiseRevision_updateBasket {s : State} {i : Fin 4} {b : Basket} {f : Basket → Basket}
    (hb : s.bst.get i = some b) (hf : (f b).state = b.state) :
    (s.updateBasket i f).raiseRevision i = rewritten s i f := by
  have hraised : (s.updateBasket i f).updateBasket i raisedBasket =
      { s with bst := s.bst.set i (some (raisedBasket (f b))) } := by
    simp [State.updateBasket, State.setSlot, hb]
  have hactive : (s.bst.set i (some (raisedBasket (f b)))).active = s.bst.active := by
    refine active_set_of_slotActive ?_
    rw [hb]
    exact slotActive_congr (by rw [raisedBasket_parked_iff, hf])
  rw [rewritten, hb]
  unfold State.raiseRevision afterWrite
  dsimp only
  rw [hraised, hactive]
  by_cases hi : s.bst.active = some i
  case neg => rw [if_neg hi, if_neg fun h => hi h.1]; rfl
  case pos =>
    have hnow : IsActive { s with bst := s.bst.set i (some (raisedBasket (f b))) } i (raisedBasket (f b)) :=
      ⟨hactive.trans hi, by simp⟩
    have hscan : State.activeScanned { s with bst := s.bst.set i (some (raisedBasket (f b))) } = (f b).state.scanned := by
      obtain ⟨hslot, hget⟩ := hnow
      simp only [State.activeScanned, hslot, hget, raisedBasket_scanned]
    have hparked : (f b).state ≠ .parked := hf ▸ IsActive.state_ne ⟨hi, hb⟩
    rw [if_pos hi, State.triggerActive, hscan]
    by_cases hsettled : (f b).state = .settled
    · rw [(scanned_eq_false_iff hparked).2 hsettled, if_neg Bool.false_ne_true, if_neg fun h => h.2 hsettled]
      rfl
    · have hscanned : (f b).state.scanned = true :=
        Bool.eq_true_of_not_eq_false fun h => hsettled ((scanned_eq_false_iff hparked).1 h)
      rw [if_pos hscanned, if_pos ⟨hi, hsettled⟩, trigger_eq _ i _ hnow]
      rfl

@[simp] theorem start_state (s : State) : (Ev.start s).state = s := rfl

theorem finish_untouched (s : State) : (Ev.start s).finish = s := rfl

/-- The end of an event whose one write was to the basket of slot `i`. -/
theorem finish_write {s : State} {i : Fin 4} {f : Basket → Basket} (hi : s.bst.get i ≠ none)
    (hf : ∀ b, (f b).state = b.state) : ((Ev.start s).write i f).finish = rewritten s i f := by
  obtain ⟨b, hb⟩ := Option.ne_none_iff_exists'.1 hi
  rw [← raiseRevision_updateBasket hb (hf b)]
  fin_cases i <;> rfl

end Sys2Proof.Machine.SharedClaims
end

-- ==== Shared claims: an unsettled record ====
section
/-!
PROOF. What a record does on leaving the queue UNSETTLED (R141, R142), in the words of the claims: the tables of the model and those of the
claims agree, then the policy of a claim's class, then each kind of record.
-/

namespace Sys2Proof.Machine.SharedClaims

/-! ## The tables -/

theorem heldIn_eq (o : Option Basket) (a : Nat) : heldIn o a = (o.map fun b => countGet a b.held).getD 0 := by
  cases o <;> rfl

theorem ownHoldings_eq (s : State) (a : Nat) : s.ownHoldings a = ownUnits s a := by
  simp only [State.ownHoldings, ownUnits, heldIn_eq]
  rfl

theorem column_eq (s : State) (a t : Nat) : s.column a t = shown s a t := by
  rw [State.column, shown, ownHoldings_eq]
  rfl

theorem allotTotal_eq (s : State) (a : Nat) : s.allotTotal a = ((List.range 32).map fun k => shown s a (k + 1)).sum := by
  simp only [State.allotTotal, stationNumbers, List.map_map, Function.comp_def, column_eq]

theorem quantity_eq (s : State) (a : Nat) : s.quantity a = quantityOf s a := by
  unfold State.quantity quantityOf
  cases tableGet a s.ptb.allots <;> rfl

theorem redemptionCap_eq (s : State) : s.redemptionCap = (s.ptb.header.map (·.cap)).getD 0 := by
  unfold State.redemptionCap
  cases s.ptb.header <;> rfl

theorem redeemedToday_eq (s : State) (m : Nat) : s.redeemedToday m = redeemedBy s.pst m := by
  unfold State.redeemedToday redeemedBy
  cases s.pst.members.find? (fun e => e.1 == m) <;> rfl

theorem insertSerial_eq (s : State) (c n : Nat) : s.insertSerial c n = { s with pst := withSerial s.pst c n } := by
  simp only [State.insertSerial, withSerial, List.contains_iff_mem, Config.maxSerials, saturate, Config.maxCount]
  by_cases hin : (c, n) ∈ s.pst.serials
  · rw [if_pos hin, if_pos hin]
  · by_cases hroom : s.pst.serials.length < 1024 <;> simp only [hin, hroom, if_true, if_false]

theorem hasMember_iff (s : State) (m : Nat) : s.hasMember m = true ↔ ∃ e ∈ s.pst.members, e.1 = m := by
  simp [State.hasMember]

theorem addRedeemed_eq (s : State) (m p : Nat) : s.addRedeemed m p = { s with pst := withPoints s.pst m p } := by
  simp only [State.addRedeemed, State.updateMember, State.insertMember, withPoints, hasMember_iff, redeemedToday_eq,
    Config.maxRedeemedToday, Config.maxMembers, saturate, Config.maxCount]
  by_cases hin : ∃ e ∈ s.pst.members, e.1 = m
  · by_cases hsame : redeemedBy s.pst m = min (redeemedBy s.pst m + p) 999999
    · rw [if_pos hin, if_pos hin, if_pos hsame, if_pos hsame]
    · rw [if_pos hin, if_pos hin, if_neg hsame, if_neg hsame]
  · by_cases hroom : s.pst.members.length < 128
    · rw [if_neg hin, if_neg hin, if_pos hroom, if_pos hroom]
    · rw [if_neg hin, if_neg hin, if_neg hroom, if_neg hroom]

theorem settleCoupon_eq (c n : Nat) (st : CouponState) : settleCoupon c n st = withCoupon c n st := by
  funext b
  simp only [settleCoupon, withCoupon, Bool.and_eq_true, beq_iff_eq]

/-! ## The policy of a claim's class -/

/-- The pre-check and the conflict tests of a claim or a PURGE are one (R137, R158). -/
theorem precheckRefuses_iff (s : State) (k : RecordKind) : precheckRefuses s k = true ↔ Objected s (carried k) := by
  cases k
  case allotClaim slot a n =>
    simp [precheckRefuses, claimConflicts, RecordKind.payload, Objected, carried, quantity_eq, allotTotal_eq, or_assoc]
  case serialClaim slot c n =>
    simp [precheckRefuses, claimConflicts, RecordKind.payload, Objected, carried, or_assoc]
  case pointsClaim slot m p =>
    simp [precheckRefuses, claimConflicts, RecordKind.payload, Objected, carried, redemptionCap_eq, redeemedToday_eq, or_assoc]
  case purge t tag =>
    simp only [precheckRefuses, claimConflicts, RecordKind.payload, Objected, carried]
    cases tableGet t s.pst.roster <;> simp [or_assoc]
  all_goals simp [precheckRefuses, claimConflicts, RecordKind.payload, Objected, carried]

theorem policyFor_eq_allow_iff {s : State} {k : RecordKind} {i : Fin 4} (hk : k.slot? = some i) :
    s.policyFor k = .allow ↔ allows s k = true := by
  unfold State.policyFor allows
  cases s.stc.config
  case none => simp
  case some c => cases k <;> simp_all [RecordKind.slot?]

/-- A claim REFUSED writes its refusal to its basket, and units none (R139). -/
theorem finish_refuseClaim {s : State} {k : RecordKind} {i : Fin 4} (hk : k.slot? = some i) (hi : s.bst.get i ≠ none) :
    ((Ev.start s).refuseClaim k).finish = refusedRecord k s := by
  cases k <;> cases hk
  case allotClaim => exact finish_untouched s
  case serialClaim c n => rw [refusedRecord, ← settleCoupon_eq]; exact finish_write hi fun _ => rfl
  case pointsClaim m p => exact finish_write hi fun _ => rfl

theorem resolveByPolicy_refused {s : State} {k : RecordKind} {i : Fin 4} (hk : k.slot? = some i)
    (h : allows s k = false ∨ Objected s (carried k)) : (Ev.start s).resolveByPolicy i k = (Ev.start s).refuseClaim k := by
  unfold Ev.resolveByPolicy
  by_cases hobj : Objected s (carried k)
  · exact if_pos ((precheckRefuses_iff s k).2 hobj)
  · have hdeny : s.policyFor k = .deny := by
      cases hp : s.policyFor k
      case deny => rfl
      case allow => simp [(policyFor_eq_allow_iff hk).1 hp, hobj] at h
    rw [start_state, if_neg ((precheckRefuses_iff s k).not.2 hobj), hdeny]

/-- The tables once a claim is granted on the spot: what a grant gives, and the owed flag for units (R142). -/
def grantedTables (k : RecordKind) (s : State) : State :=
  match k with
  | .allotClaim _ a _ => s.markOwed a
  | k => takeGrant k s

/-- What a grant on the spot writes to the basket: the grant, and the local-decision mark (R63, R142). -/
def grantedBasket (k : RecordKind) (b : Basket) : Basket := { grantTo k b with localMark := true }

theorem grantedTables_bst (k : RecordKind) (s : State) : (grantedTables k s).bst = s.bst := by
  cases k <;> simp [grantedTables, takeGrant]

theorem grantedBasket_state (k : RecordKind) (b : Basket) : (grantedBasket k b).state = b.state := by
  cases k <;> rfl

theorem resolveByPolicy_granted {s : State} {k : RecordKind} {i : Fin 4} (hk : k.slot? = some i)
    (hallow : allows s k = true) (hobj : ¬ Objected s (carried k)) :
    (Ev.start s).resolveByPolicy i k = (Ev.start (grantedTables k s)).write i (grantedBasket k) := by
  unfold Ev.resolveByPolicy
  rw [start_state, if_neg ((precheckRefuses_iff s k).not.2 hobj), (policyFor_eq_allow_iff hk).2 hallow]
  cases k <;> rfl

/-- A claim of a basket resolved on the spot (R142). -/
theorem resolvedLocally_resolveByPolicy {s : State} {k : RecordKind} {i : Fin 4} (hk : k.slot? = some i)
    (hi : s.bst.get i ≠ none) : ResolvedLocally k s ((Ev.start s).resolveByPolicy i k).finish := by
  refine ⟨fun hallow hobj => ?granted, fun hrefused => ?refused⟩
  case refused => rw [resolveByPolicy_refused hk hrefused, finish_refuseClaim hk hi]
  case granted =>
    rw [resolveByPolicy_granted hk hallow hobj,
      finish_write (by rwa [grantedTables_bst]) (grantedBasket_state k)]
    cases k <;> cases hk
    case allotClaim a n => rfl
    case serialClaim c n =>
      have hbasket : grantedBasket (.serialClaim (some i) c n) =
          fun b => { withCoupon c n .redeemed b with localMark := true } := by
        rw [← settleCoupon_eq]; rfl
      exact congrArg₂ (rewritten · i ·) (insertSerial_eq s c n) hbasket
    case pointsClaim m p => exact congrArg (rewritten · i _) (addRedeemed_eq s m p)

/-! ## Each kind of record -/

theorem startJoinWindow_eq (s : State) : s.startJoinWindow =
    if s.stc.join = .waiting then { s with stc := { s.stc with join := .running 3000 } } else s := by
  unfold State.startJoinWindow
  split
  case h_1 hw => rw [if_pos hw]; rfl
  case h_2 hw => rw [if_neg hw]

/-- A record that has left the queue UNSETTLED (R141). -/
theorem unsettled_unsettle (k : RecordKind) (s : State) : Unsettled k s ((Ev.start s).unsettle k).finish := by
  cases k
  case allotClaim slot a n =>
    cases slot
    case none => exact finish_untouched s
    case some i => exact resolvedLocally_resolveByPolicy rfl
  case serialClaim slot c n =>
    cases slot
    case none => exact finish_untouched s
    case some i => exact resolvedLocally_resolveByPolicy rfl
  case pointsClaim slot m p =>
    cases slot
    case none => exact finish_untouched s
    case some i => exact resolvedLocally_resolveByPolicy rfl
  case allotRelease a n => exact finish_untouched (s.markOwed a)
  case serialRelease c n => exact finish_untouched s
  case pointsRelease m p => exact finish_untouched s
  case purge t tag => exact finish_untouched (s.respond tag (refusal .laneDown))
  case syncAsk => exact (finish_untouched s.startJoinWindow).trans (startJoinWindow_eq s)

end Sys2Proof.Machine.SharedClaims
end

-- ==== Shared claims: the spans that run out ====
section
/-!
PROOF. The timed events (O52): what passing time leaves of each span, then each expiry on the state at its moment (R141, R142, R150, R153,
R157, R174, log entry 7).
-/

namespace Sys2Proof.Machine.SharedClaims

theorem whenRunning_running {s : State} (hrun : s.inReset = false) (k : State → State) : whenRunning s k = .next (k s) := by
  simp [whenRunning, hrun]

/-! ## Records and announcements -/

/-- A presence timer restarted at some moment forgets the time before it (R150). -/
theorem elapse_presence_restart (s : State) (ms : Nat) :
    ((s.elapse ms).cle.presence.map fun _ => 0) = s.cle.presence.map fun _ => 0 := by
  simp [State.elapse, Function.comp_def]

theorem exec_recordExpiry {s : State} (hrun : s.inReset = false) (n : Nat) :
    exec (.claimAgeExpiry (.record n)) s = .next (expireRecord s n) := by
  show execClaimAgeExpiry (.record n) s = _
  rw [execClaimAgeExpiry, whenRunning_running hrun]

theorem exec_announcementExpiry {s : State} (hrun : s.inReset = false) :
    exec (.claimAgeExpiry .announcement) s = .next (expireAnnouncement s) := by
  show execClaimAgeExpiry .announcement s = _
  rw [execClaimAgeExpiry, whenRunning_running hrun]

/-- A record that is not in flight leaves UNSETTLED at its age limit, once the rest of its span has passed (R141). -/
theorem unsettled_expireRecord {s : State} {n : Nat} {r : Record} (hr : s.cle.queue[n]? = some r)
    (hfree : ¬ (n = 0 ∧ s.cle.inFlight = .head)) :
    Unsettled r.kind ((s.elapse (ageLeft (s.ageOf r.enqueued))).dropRecord n) (expireRecord s n) := by
  have hgone : expireRecord s n =
      ((Ev.start ((s.elapse (ageLeft (s.ageOf r.enqueued))).dropRecord n)).unsettle r.kind).finish := by
    simp only [expireRecord, hr, if_neg hfree]
    rfl
  rw [hgone]
  exact unsettled_unsettle _ _

theorem expireRecord_inFlight {s : State} {n : Nat} {r : Record} (hr : s.cle.queue[n]? = some r)
    (hhead : n = 0 ∧ s.cle.inFlight = .head) : expireRecord s n = s.elapse (ageLeft (s.ageOf r.enqueued)) := by
  simp only [expireRecord, hr, if_pos hhead]

theorem expireAnnouncement_inFlight {s : State} {a : Announcement} (ha : s.cle.announcement = some a)
    (hf : s.cle.inFlight = .announcement) : expireAnnouncement s = s.elapse (ageLeft (s.ageOf a.firstOffer)) := by
  simp [expireAnnouncement, ha, hf]

/-- An announcement that is not in flight is dropped at its age limit, once the rest of its span has passed (R141). -/
theorem expireAnnouncement_eq {s : State} {a : Announcement} (ha : s.cle.announcement = some a)
    (hf : s.cle.inFlight ≠ .announcement) :
    expireAnnouncement s = unsettleAnnouncement a.kind (s.elapse (ageLeft (s.ageOf a.firstOffer))) := by
  simp [expireAnnouncement, ha, hf]

theorem withoutAnnouncement_eq {f : InFlight} (hf : f ≠ .announcement) : f.withoutAnnouncement = f := by
  cases f <;> simp_all [InFlight.withoutAnnouncement]

theorem dropAnnouncement_eq {s : State} (hf : s.cle.inFlight ≠ .announcement) :
    s.dropAnnouncement = { s with cle := { s.cle with announcement := none } } := by
  rw [State.dropAnnouncement, withoutAnnouncement_eq hf]

theorem unsettleAnnouncement_presence {s : State} (hf : s.cle.inFlight ≠ .announcement) :
    unsettleAnnouncement .presence s =
      { s with cle := { s.cle with announcement := none, presence := s.cle.presence.map fun _ => 0 } } := by
  rw [unsettleAnnouncement, dropAnnouncement_eq hf]
  rfl

theorem unsettleAnnouncement_own {s : State} {x t : Nat} (hf : s.cle.inFlight ≠ .announcement) (ht : t = s.stc.station) :
    unsettleAnnouncement (.holdings x t) s =
      { s with cle := { s.cle with announcement := none, owed := clearOwed x s.cle.owed } } := by
  rw [unsettleAnnouncement, dropAnnouncement_eq hf]
  exact if_pos ht

theorem unsettleAnnouncement_echo {s : State} {x t : Nat} (hf : s.cle.inFlight ≠ .announcement) (ht : t ≠ s.stc.station) :
    unsettleAnnouncement (.holdings x t) s =
      { s with cle := { s.cle with announcement := none, echoes := s.cle.echoes.erase (x, t) } } := by
  rw [unsettleAnnouncement, dropAnnouncement_eq hf]
  exact if_neg ht

/-! ## The presence timer and the roster -/

theorem exec_presenceDue {s : State} {ms : Nat} (hrun : s.inReset = false) (hms : s.cle.presence = some ms) :
    exec .presenceDue s = .next (s.elapse (10000 - ms)) := by
  show execPresenceDue s = _
  rw [execPresenceDue, whenRunning_running hrun, hms]
  rfl

theorem presenceDue_elapse {s : State} {ms : Nat} (hms : s.cle.presence = some ms) :
    (s.elapse (10000 - ms)).presenceDue = true := by
  have hreached : Config.presenceMs ≤ ms + (10000 - ms) := by
    rw [Config.presenceMs]; omega
  simp only [State.presenceDue, State.elapse, hms, Option.map_some, decide_eq_true hreached]

theorem tableGet_map {ν : Type} (f : ν → ν) (k : Nat) (t : Table ν) :
    tableGet k (t.map fun e => (e.1, f e.2)) = (tableGet k t).map f := by
  induction t with
  | nil => rfl
  | cons e t ih =>
    simp only [List.map_cons, tableGet, ih]
    split <;> rfl

theorem tableGet_elapse (s : State) (ms k : Nat) :
    tableGet k (s.elapse ms).pst.roster = (tableGet k s.pst.roster).map (·.elapse ms) :=
  tableGet_map (fun e : RosterEntry => e.elapse ms) k s.pst.roster

/-- An entry that was heard `ms` ago has been unheard for 30 s once the rest of them has passed (R157). -/
theorem elapse_silence {e : RosterEntry} {ms : Nat} (hms : e.sinceHeard = some ms) (hle : ms ≤ 30000) :
    (e.elapse (30000 - ms)).silence = { e with state := .silent, sinceHeard := some 30000 } := by
  have hsum : min (ms + (30000 - ms)) Config.heardCapMs = 30000 := by
    rw [Config.heardCapMs]; omega
  simp only [RosterEntry.silence, RosterEntry.elapse, hms, Option.map_some, hsum]

/-- ROSTER_SILENT on an entry that was heard: the rest of its 30 s passes, and it is SILENT (R157). -/
theorem execRosterSilent_eq {s : State} {station : Byte} {e : RosterEntry} {ms : Nat} (hrun : s.inReset = false)
    (he : tableGet station.toNat s.pst.roster = some e) (hst : e.state = .present ∨ e.state = .foreign)
    (hms : e.sinceHeard = some ms) (hle : ms ≤ 30000) :
    let now := s.elapse (30000 - ms)
    exec (.rosterSilent station) s = .next { now with pst := { now.pst with
      roster := tablePut station.toNat { e with state := .silent, sinceHeard := some 30000 } now.pst.roster } } := by
  have hentry : s.rosterEntry station.toNat = e := by rw [State.rosterEntry, he]; rfl
  have hnow : ((s.elapse (30000 - ms)).rosterEntry station.toNat).silence =
      { e with state := .silent, sinceHeard := some 30000 } := by
    rw [State.rosterEntry, tableGet_elapse, he]
    exact elapse_silence hms hle
  show execRosterSilent station s = _
  rw [execRosterSilent, whenRunning_running hrun, hentry, if_pos hst, hms, ← hnow]
  rfl

/-! ## The join window -/

theorem getLsbD_setOwed (k : Nat) (w : BitVec 32) {a : Nat} (ha : a < 32) :
    (setOwed k w).getLsbD a = (w.getLsbD a || decide (k = a)) := by
  rw [setOwed, BitVec.getLsbD_or, BitVec.getLsbD_ofNat, Nat.testBit_two_pow, decide_eq_true ha, Bool.true_and]

theorem getLsbD_foldl_setOwed (ks : List Nat) (w : BitVec 32) {a : Nat} (ha : a < 32) :
    (ks.foldl (fun w k => setOwed k w) w).getLsbD a = (w.getLsbD a || decide (a ∈ ks)) := by
  induction ks generalizing w with
  | nil => simp
  | cons k ks ih =>
    rw [List.foldl_cons, ih, getLsbD_setOwed k w ha, Bool.or_assoc]
    simp [eq_comm]

/-- Every allotment with own holdings is owed an announcement (R174). -/
theorem getLsbD_owesHoldings (s : State) {a : Nat} (ha : a < 32) :
    s.owesHoldings.cle.owed.getLsbD a = (s.cle.owed.getLsbD a || decide (0 < ownUnits s a)) := by
  rw [State.owesHoldings, getLsbD_foldl_setOwed _ _ ha]
  simp [allotmentNumbers, ha, ownHoldings_eq, Nat.pos_iff_ne_zero]

theorem rosterCount_elapse (s : State) (ms : Nat) (st : RosterState) :
    (s.elapse ms).rosterCount st = (s.pst.roster.filter fun e => e.2.state == st).length := by
  simp [State.rosterCount, State.elapse, RosterEntry.elapse, List.filter_map, Function.comp_def]

theorem holdingsSum_eq (s : State) : s.holdingsSum = ((List.range 32).map (ownUnits s)).sum := by
  rw [State.holdingsSum, allotmentNumbers, funext (ownHoldings_eq s)]

theorem notify_eq (s : State) (n : Notice) : s.notify n = noticed s n := rfl

/-- JOIN_WINDOW_EXPIRY of a running window: the rest of it passes, the station trades and owes its holdings (R174). -/
theorem execJoinWindowExpiry_eq {s : State} {ms : Nat} (hrun : s.inReset = false) (hjoin : s.stc.join = .running ms) :
    let now := s.elapse ms
    let traded : State := { now with stc := { now.stc with day := .trading, join := .idle } }
    exec .joinWindowExpiry s = .next (noticed traded.owesHoldings
      (.joinComplete s.stc.dayNumber (s.pst.roster.filter fun e => e.2.state == .present).length
        ((List.range 32).map (ownUnits s)).sum)) := by
  show execJoinWindowExpiry s = _
  rw [execJoinWindowExpiry, whenRunning_running hrun]
  simp only [hjoin, rosterCount_elapse, holdingsSum_eq, notify_eq]
  rfl

/-! ## The claim -/

/-- Settles O52: each expiry once what is left of its span has passed. -/
theorem spansRunOut : Obligations.SpansRunOut := by
  intro s hrun
  refine ⟨fun n r hr => ?record, fun a ha => ?announcement, fun ms hms => ?presence,
    fun station e ms he hst hms hle => ?roster, fun ms hjoin => ?join⟩
  case record =>
    exact ⟨fun hn hhead => (exec_recordExpiry hrun n).trans (congrArg _ (expireRecord_inFlight hr ⟨hn, hhead⟩)),
      fun hfree => ⟨_, exec_recordExpiry hrun n, unsettled_expireRecord hr hfree⟩⟩
  case announcement =>
    refine ⟨fun hf => ?_, fun hf => ⟨fun hk => ?_, fun x hk => ?_, fun x t hk ht => ?_⟩⟩
      <;> rw [exec_announcementExpiry hrun]
    · rw [expireAnnouncement_inFlight ha hf]; rfl
    · rw [expireAnnouncement_eq ha hf, hk, unsettleAnnouncement_presence (s := s.elapse _) hf, elapse_presence_restart]
      rfl
    · rw [expireAnnouncement_eq ha hf, hk, unsettleAnnouncement_own (s := s.elapse _) (t := s.stc.station) hf rfl]
      rfl
    · rw [expireAnnouncement_eq ha hf, hk, unsettleAnnouncement_echo (s := s.elapse _) hf ht]
      rfl
  case presence =>
    exact ⟨_, exec_presenceDue hrun hms, rfl, presenceDue_elapse hms⟩
  case roster =>
    refine ⟨_, execRosterSilent_eq hrun he hst hms hle, ?_, fun k hk => ?_, rfl, rfl, rfl, rfl⟩
    · exact (tableGet_tablePut _ _ _ _).trans (if_pos rfl)
    · exact (tableGet_tablePut _ _ _ _).trans (if_neg hk)
  case join =>
    exact ⟨_, execJoinWindowExpiry_eq hrun hjoin, fun a ha => getLsbD_owesHoldings _ ha⟩

end Sys2Proof.Machine.SharedClaims
end
